-- ==== Sys2Proof/Word.lean ====
section
/-!
DEFINITION. The value types of the block: the binary32 value `F32`, the 40-bit message word, and the two fixed-size
files of like things, of four channels and of eight lengths.
-/

namespace Sys2Proof

/-- A binary32 value (`00_scope.md` R4): a sign, a biased exponent and a 23-bit fraction, or an infinity, or NaN.
All NaNs are one value (R5, `93_implementation_defined.md` U5). -/
inductive F32 where
  | finite (neg : Bool) (exp : Fin 255) (frac : Fin 8388608)
  | inf (neg : Bool)
  | nan
  deriving DecidableEq, Repr, Inhabited

/-- `+0` (`neg = false`) and `-0` (`neg = true`). -/
def F32.zeroOf (neg : Bool) : F32 := .finite neg 0 0

/-- `+0`. -/
def F32.zero : F32 := F32.zeroOf false

/-- One word of the message memory and of the message format `MSG`, `MSG_W` = 40 bits (`30_encoding.md` R91). -/
abbrev MsgWord := BitVec 40

/-- A file of `N_CH` = 4 like things, one per channel (`00_scope.md` R3). -/
structure Quad (α : Type) where
  c0 : α
  c1 : α
  c2 : α
  c3 : α
  deriving DecidableEq, Repr, Inhabited

/-- Element `i`. -/
def Quad.get {α : Type} (q : Quad α) (i : Fin 4) : α :=
  match i with
  | 0 => q.c0
  | 1 => q.c1
  | 2 => q.c2
  | 3 => q.c3

/-- The file with element `i` replaced. -/
def Quad.set {α : Type} (q : Quad α) (i : Fin 4) (x : α) : Quad α :=
  match i with
  | 0 => { q with c0 := x }
  | 1 => { q with c1 := x }
  | 2 => { q with c2 := x }
  | 3 => { q with c3 := x }

/-- The file whose element `i` is `f i`. -/
def Quad.build {α : Type} (f : Fin 4 → α) : Quad α := ⟨f 0, f 1, f 2, f 3⟩

/-- `f` applied to every element. -/
def Quad.map {α β : Type} (f : α → β) (q : Quad α) : Quad β := ⟨f q.c0, f q.c1, f q.c2, f q.c3⟩

/-- The elements in order. -/
def Quad.toList {α : Type} (q : Quad α) : List α := [q.c0, q.c1, q.c2, q.c3]

/-- A file of eight like things: the lengths `len[0..7]` (`10_state.md` R27). -/
structure Oct (α : Type) where
  e0 : α
  e1 : α
  e2 : α
  e3 : α
  e4 : α
  e5 : α
  e6 : α
  e7 : α
  deriving DecidableEq, Repr, Inhabited

/-- The elements in order. -/
def Oct.toList {α : Type} (o : Oct α) : List α := [o.e0, o.e1, o.e2, o.e3, o.e4, o.e5, o.e6, o.e7]

end Sys2Proof
end

