-- ==== Sys2Proof/Machine/Float.lean ====
section
/-!
DEFINITION. Binary32 arithmetic (`00_scope.md` R4, R5, R7, R8, R13): bit patterns, exact values in units of `2^-149`,
correctly rounded `+ - * /` and `sqrt`, comparisons, `clamp`, `toF32` and `truncToNat`.
Every finite binary32 value is a whole multiple of `2^-149`, so each operation is computed exactly on naturals or
integers and rounded once, to nearest, ties to even.
-/

namespace Sys2Proof

/-- The value whose bit pattern is `b` (R4): bit 31 sign, bits 30:23 exponent, bits 22:0 fraction. -/
def F32.ofBits (b : BitVec 32) : F32 :=
  let neg := b.getLsbD 31
  let e := b.toNat / 8388608 % 256
  if h : e < 255 then .finite neg ⟨e, h⟩ ⟨b.toNat % 8388608, Nat.mod_lt _ (by decide)⟩
  else if b.toNat % 8388608 = 0 then .inf neg
  else .nan

/-- A bit pattern of the value; NaN gets `0x7FC00000`, the pattern `30_encoding.md` R101 lists for it (log 30). -/
def F32.toBits : F32 → BitVec 32
  | .finite neg e f => BitVec.ofNat 32 ((if neg then 2147483648 else 0) + e.val * 8388608 + f.val)
  | .inf neg => if neg then 0xFF800000#32 else 0x7F800000#32
  | .nan => 0x7FC00000#32

/-- The significand: the fraction, with the hidden bit when the exponent field is not 0. -/
def F32.significand (e : Fin 255) (f : Fin 8388608) : Nat :=
  if e.val = 0 then f.val else 8388608 + f.val

/-- The magnitude of a finite value in units of `2^-149`. -/
def F32.magnitude (e : Fin 255) (f : Fin 8388608) : Nat :=
  F32.significand e f * 2 ^ (e.val - 1)

/-- A finite value in units of `2^-149`, signed (`0` for the non-finite values, which no rule reads this way). -/
def F32.scaled : F32 → Int
  | .finite neg e f => if neg then -(F32.magnitude e f : Int) else (F32.magnitude e f : Int)
  | .inf _ => 0
  | .nan => 0

/-- Whether the value is finite. -/
def F32.isFinite : F32 → Bool
  | .finite _ _ _ => true
  | .inf _ => false
  | .nan => false

/-- Whether the value is NaN. -/
def F32.isNaN : F32 → Bool
  | .finite _ _ _ => false
  | .inf _ => false
  | .nan => true

/-- The sign bit (`false` for NaN). -/
def F32.sign : F32 → Bool
  | .finite neg _ _ => neg
  | .inf neg => neg
  | .nan => false

/-- `num / den` rounded to the nearest natural, ties to even. -/
def F32.nearestEven (num den : Nat) : Nat :=
  let m := num / den
  let r := num % den
  if den < 2 * r ∨ (2 * r = den ∧ m % 2 = 1) then m + 1 else m

/-- The exponent of the spacing of binary32 values at `q` units of `2^-149`: neighbours there are `2^result` units apart. -/
def F32.spacing (q : Nat) : Nat := Nat.log2 q - 23

/-- The binary32 value nearest to `num / den` units of `2^-149`, ties to even, with the given sign; an infinity when the
rounded magnitude is out of range (R5).  `code` is the magnitude's 31-bit pattern, exponent field and fraction in one. -/
def F32.roundQuot (neg : Bool) (num den : Nat) : F32 :=
  let s := F32.spacing (num / den)
  let code := s * 8388608 + F32.nearestEven num (den * 2 ^ s)
  if h : code < 255 * 8388608 then
    .finite neg ⟨code / 8388608, by omega⟩ ⟨code % 8388608, Nat.mod_lt _ (by decide)⟩
  else .inf neg

/-- `-a`: the sign bit flipped, nothing rounded (R5). -/
def F32.negate : F32 → F32
  | .finite neg e f => .finite (!neg) e f
  | .inf neg => .inf (!neg)
  | .nan => .nan

/-- `|a|`. -/
def F32.abs : F32 → F32
  | .finite _ e f => .finite false e f
  | .inf _ => .inf false
  | .nan => .nan

/-- `a + b` (R5). -/
def F32.add (a b : F32) : F32 :=
  match a, b with
  | .nan, _ => .nan
  | .inf _, .nan => .nan
  | .inf s, .inf t => if s = t then .inf s else .nan
  | .inf s, .finite _ _ _ => .inf s
  | .finite _ _ _, .nan => .nan
  | .finite _ _ _, .inf t => .inf t
  | .finite s e f, .finite t e' f' =>
    let sum := F32.scaled (.finite s e f) + F32.scaled (.finite t e' f')
    if sum = 0 then F32.zeroOf (s && t) else F32.roundQuot (sum < 0) sum.natAbs 1

/-- `a - b`, which is `a + (-b)` (R5). -/
def F32.sub (a b : F32) : F32 := F32.add a (F32.negate b)

/-- `a * b` (R5). -/
def F32.mul (a b : F32) : F32 :=
  match a, b with
  | .nan, _ => .nan
  | .inf _, .nan => .nan
  | .inf s, .inf t => .inf (s != t)
  | .inf s, .finite t e f => if F32.magnitude e f = 0 then .nan else .inf (s != t)
  | .finite _ _ _, .nan => .nan
  | .finite s e f, .inf t => if F32.magnitude e f = 0 then .nan else .inf (s != t)
  | .finite s e f, .finite t e' f' =>
    F32.roundQuot (s != t) (F32.magnitude e f * F32.magnitude e' f') (2 ^ 149)

/-- `a / b` (R5). -/
def F32.div (a b : F32) : F32 :=
  match a, b with
  | .nan, _ => .nan
  | .inf _, .nan => .nan
  | .inf _, .inf _ => .nan
  | .inf s, .finite t _ _ => .inf (s != t)
  | .finite _ _ _, .nan => .nan
  | .finite s _ _, .inf t => F32.zeroOf (s != t)
  | .finite s e f, .finite t e' f' =>
    if F32.magnitude e' f' = 0 then
      if F32.magnitude e f = 0 then .nan else .inf (s != t)
    else F32.roundQuot (s != t) (F32.magnitude e f * 2 ^ 149) (F32.magnitude e' f')

/-- The bits of an integer square root, from bit `k - 1` down: the largest `r' >= r` that differs from `r` in its low
`k` bits and whose square is at most `n`. -/
def F32.sqrtBits (n : Nat) : Nat → Nat → Nat
  | 0, r => r
  | k + 1, r => F32.sqrtBits n k (if (r + 2 ^ k) * (r + 2 ^ k) ≤ n then r + 2 ^ k else r)

/-- The integer part of the square root of `n`, for `n < 2^440`. -/
def F32.natSqrt (n : Nat) : Nat := F32.sqrtBits n 220 0

/-- `sqrt(a)` (R5).  The square root of `m` units of `2^-149` is the square root of `m * 2^149` in those units; where
that is not whole, a half-odd number between its two neighbours stands for it, which rounds the same way, because the
rounding boundaries there are whole. -/
def F32.sqrt (a : F32) : F32 :=
  match a with
  | .nan => .nan
  | .inf neg => if neg then .nan else .inf false
  | .finite neg e f =>
    if F32.magnitude e f = 0 then F32.zeroOf neg
    else if neg then .nan
    else
      let n := F32.magnitude e f * 2 ^ 149
      let r := F32.natSqrt n
      if r * r = n then F32.roundQuot false r 1 else F32.roundQuot false (2 * r + 1) 2

/-- `a <= b`, false when either is NaN (R5). -/
def F32.le (a b : F32) : Bool :=
  match a, b with
  | .nan, _ => false
  | .inf _, .nan => false
  | .inf s, .inf t => s || !t
  | .inf s, .finite _ _ _ => s
  | .finite _ _ _, .nan => false
  | .finite _ _ _, .inf t => !t
  | .finite s e f, .finite t e' f' => F32.scaled (.finite s e f) ≤ F32.scaled (.finite t e' f')

/-- `a < b`, false when either is NaN. -/
def F32.lt (a b : F32) : Bool := F32.le a b && !F32.le b a

/-- `a = b` as a condition: IEEE equality, `+0 = -0`, NaN equals nothing (R18). -/
def F32.feq (a b : F32) : Bool := F32.le a b && F32.le b a

/-- `clamp(v, lo, hi)` (R13). -/
def F32.clamp (v lo hi : F32) : F32 :=
  if !F32.le lo v then lo
  else if F32.lt hi v then hi
  else v

/-- `toF32(n)`: the binary32 nearest to `n`, ties to even (R7). -/
def F32.ofNat (n : Nat) : F32 := F32.roundQuot false (n * 2 ^ 149) 1

/-- `truncToNat(v)` (R7). -/
def F32.truncToNat (v : F32) : Nat :=
  match v with
  | .nan => 0
  | .inf neg => if neg then 0 else 2147483647
  | .finite neg e f => if neg then 0 else min (F32.magnitude e f / 2 ^ 149) 2147483647

/-- `a` is at most `b` in magnitude. -/
def F32.absLe (a b : F32) : Bool := F32.le (F32.abs a) (F32.abs b)

end Sys2Proof
end

