-- ==== Sys2Proof/Machine/Records.lean ====
section
/-!
DEFINITION. The records of the block's state (`10_state.md` R22 to R36), as plain data: the delay line with its sample
memory, the two damping filters, the allpass, the parameter registers, the audio agent's engine and the parameter queue.
-/

namespace Sys2Proof.Machine

/-- The contents of one sample memory (`10_state.md` R35): the words that are not `+0`, by rising index.  An index that is
not listed holds `+0`, what DL_NEW puts in every word (`40_delayline.md` R120; log 17). -/
abbrev SampleMem := List (Nat × F32)

/-- A DelayLine record (`10_state.md` R30). -/
structure DelayLine where
  cap : Nat
  dur : Nat
  w : Nat
  r : Nat
  buf : SampleMem
  deriving DecidableEq, Repr, Inhabited

/-- An OnePoleLowPass record (`10_state.md` R31). -/
structure OnePole where
  fs : F32
  a0 : F32
  b1 : F32
  state : F32
  deriving DecidableEq, Repr, Inhabited

/-- A Biquad record (`10_state.md` R32): five coefficients, already divided by `a0`, and four state registers. -/
structure Biquad where
  b0 : F32
  b1 : F32
  b2 : F32
  a1 : F32
  a2 : F32
  x1 : F32
  x2 : F32
  y1 : F32
  y2 : F32
  deriving DecidableEq, Repr, Inhabited

/-- An Allpass record (`10_state.md` R33): the gain, the input-side line, the output-side line, the sample rate. -/
structure Allpass where
  gain : F32
  inLine : DelayLine
  outLine : DelayLine
  fs : F32
  deriving DecidableEq, Repr, Inhabited

/-- `DAMPING_KIND` (`00_scope.md` R3, D25). -/
inductive DampingKind where
  | onePole
  | biquad
  deriving DecidableEq, Repr, Inhabited

/-- `CDC_LAG` (`00_scope.md` R3, D12). -/
inductive CdcLag where
  | arbitrary
  | zero
  deriving DecidableEq, Repr, Inhabited

/-- The damping filter of one channel: the record of the kind that was built (`46_fdn_engine.md` R226). -/
inductive Damp where
  | onePole (f : OnePole)
  | biquad (b : Biquad)
  deriving DecidableEq, Repr, Inhabited

/-- The parameter registers `P[0..7]` under their names, in the order of their numbers (`10_state.md` R26). -/
structure Params where
  size : F32
  decay : F32
  absorption : F32
  hardness : F32
  progression : F32
  drywet : F32
  width : F32
  predelayMs : F32
  deriving DecidableEq, Repr, Inhabited

/-- `P[t]` (`10_state.md` R26). -/
def Params.reg (p : Params) (t : Fin 8) : F32 :=
  match t with
  | 0 => p.size
  | 1 => p.decay
  | 2 => p.absorption
  | 3 => p.hardness
  | 4 => p.progression
  | 5 => p.drywet
  | 6 => p.width
  | 7 => p.predelayMs

/-- What the audio agent owns (`10_state.md` R20, R21), less the sequencer and `cfg_ok`: the rest of the configuration latch,
the parameter registers, `len`, the feedback register and matrix, the filters and the lines. -/
structure Engine where
  fs : F32
  cap : Nat
  p : Params
  len : Oct Nat
  fb : Quad F32
  fbm : Quad (Quad F32)
  damp : Quad Damp
  ap : Quad Allpass
  dl : Quad DelayLine
  pre : DelayLine
  deriving DecidableEq, Repr, Inhabited

/-- The slots `q_slot[0..Q-1]` (`10_state.md` R35, R36): `Q` = `QUEUE_CAPACITY` words, an invariant of the state. -/
abbrev Slots := List MsgWord

/-- The parameter queue (`10_state.md` R36). -/
structure Queue where
  slot : Slots
  tail : Nat
  tailSync : Nat
  head : Nat
  headSync : Nat
  deriving DecidableEq, Repr, Inhabited

/-- The sequencer register (`10_state.md` R24). -/
inductive Seq where
  | unconfigured
  | idle
  | draining
  | rendering (k : Nat)
  deriving DecidableEq, Repr, Inhabited

/-- One stand-alone component of each kind, outside the engine (`10_state.md` R32 "available as a component in its own
right"; log 6). -/
structure Bench where
  line : DelayLine
  bq : Biquad
  op : OnePole
  ap : Allpass
  deriving DecidableEq, Repr, Inhabited

/-- What a transaction returns to its caller (`30_encoding.md` R96, R98, and the result column of the opcode table). -/
inductive Result where
  /-- Nothing. -/
  | none
  /-- RESET: `RESET_OK` (`true`) or `RESET_FAIL`. -/
  | resetStatus (ok : Bool)
  /-- ENQ: `OK` (`true`) or `FAIL`. -/
  | enqStatus (ok : Bool)
  /-- DEQ: `NONE` or `SOME(word)`. -/
  | dequeued (m : Option MsgWord)
  /-- One sample. -/
  | sample (y : F32)
  /-- FDN_SAMPLE: left and right. -/
  | stereo (l r : F32)
  /-- RENDER, CALLBACK (left, right, left, right, ...: R102) and DL_PROCESS_BLOCK. -/
  | block (ys : List F32)
  /-- COPRIME. -/
  | lengths (ns : List Nat)
  /-- HADAMARD: the matrix, or nothing when the order is not a power of two. -/
  | matrix (m : Option (List (List Int)))
  /-- MATVEC. -/
  | vector (v : Quad F32)
  deriving DecidableEq, Repr, Inhabited

end Sys2Proof.Machine
end

