-- ==== Sys2Proof/Config.lean ====
section
/-!
DEFINITION. The parameters of the block (`00_scope.md` R3) as a record, with their constraints, the constants of R9, the numeric
functions `NUM` with the properties R6 names, and the free values of what the spec leaves unspecified.
-/

namespace Sys2Proof

namespace Config

/-- 1.0. -/
def one : F32 := F32.ofBits 0x3F800000#32
/-- -1.0. -/
def minusOne : F32 := F32.ofBits 0xBF800000#32
/-- 2.0. -/
def two : F32 := F32.ofBits 0x40000000#32
/-- -2.0. -/
def minusTwo : F32 := F32.ofBits 0xC0000000#32
/-- 0.5. -/
def half : F32 := F32.ofBits 0x3F000000#32
/-- 4.0. -/
def four : F32 := F32.ofBits 0x40800000#32
/-- 40.0, the divisor of `gain_db / 40.0` (`41_biquad.md` R155). -/
def forty : F32 := F32.ofBits 0x42200000#32
/-- 1000.0, milliseconds per second (`46_fdn_engine.md` R253). -/
def thousand : F32 := F32.ofBits 0x447A0000#32
/-- `PI` (R9). -/
def pi : F32 := F32.ofBits 0x40490FDB#32
/-- `TWO_PI` (R9). -/
def twoPi : F32 := F32.ofBits 0x40C90FDB#32
/-- `SQRT2` (R9). -/
def sqrt2 : F32 := F32.ofBits 0x3FB504F3#32

/-- `N_CH` = 4: the one value the source fixes; the rules are written for it (R3, `46_fdn_engine.md` R243). -/
def nCh : Nat := 4

end Config

/-- The parameter table of R3, as the configuration record a model takes.  `N_CH` and `MSG_W` are not in it, since the rules are
written for the one and the other's constraint leaves one value.  `NUM` is in it by name, so that the record is plain data (log 8), and
`ABSORB_MAX` and `ABSORB_RST` by the number the sample rate is divided by (log 26).  `DECAY_MAX` and `PREDELAY_MAX` are fields of their
own, as every range is, although the table computes their values from `STABLE_MAX` and `MAX_DELAY_SECONDS` (log 32). -/
structure Parameters where
  /-- `NUM`: the name of the functions the block computes with. -/
  numName : Nat
  /-- `QUEUE_CAPACITY`, `Q`. -/
  queueCapacity : Nat
  /-- `CDC_LAG`. -/
  cdcLag : Machine.CdcLag
  /-- `MAX_DELAY_SECONDS`. -/
  maxDelaySeconds : F32
  /-- `LINE_MEM_WORDS`. -/
  lineMemWords : Nat
  /-- `SR_MIN`. -/
  srMin : F32
  /-- `SR_MAX`. -/
  srMax : F32
  /-- `SOUND_SPEED`. -/
  soundSpeed : F32
  /-- `STABLE_MAX`. -/
  stableMax : F32
  /-- `SIZE_MIN`. -/
  sizeMin : F32
  /-- `SIZE_MAX`. -/
  sizeMax : F32
  /-- `SIZE_RST`. -/
  sizeRst : F32
  /-- `PROG_MIN`. -/
  progMin : F32
  /-- `PROG_MAX`. -/
  progMax : F32
  /-- `PROG_RST`. -/
  progRst : F32
  /-- `DECAY_MIN`. -/
  decayMin : F32
  /-- `DECAY_MAX`. -/
  decayMax : F32
  /-- `DECAY_RST`. -/
  decayRst : F32
  /-- `ABSORB_MIN`. -/
  absorbMin : F32
  /-- `ABSORB_MAX` is `fs` divided by this (D26). -/
  absorbMaxDiv : F32
  /-- `ABSORB_RST` is `fs` divided by this (D26). -/
  absorbRstDiv : F32
  /-- `HARD_MIN`. -/
  hardMin : F32
  /-- `HARD_MAX`. -/
  hardMax : F32
  /-- `HARD_RST`. -/
  hardRst : F32
  /-- `DRYWET_MIN`. -/
  drywetMin : F32
  /-- `DRYWET_MAX`. -/
  drywetMax : F32
  /-- `DRYWET_RST`. -/
  drywetRst : F32
  /-- `WIDTH_MIN`. -/
  widthMin : F32
  /-- `WIDTH_MAX`. -/
  widthMax : F32
  /-- `WIDTH_RST`. -/
  widthRst : F32
  /-- `PREDELAY_MIN`. -/
  predelayMin : F32
  /-- `PREDELAY_MAX`. -/
  predelayMax : F32
  /-- `PREDELAY_RST`. -/
  predelayRst : F32
  /-- `AP_GAIN_RST`. -/
  apGainRst : F32
  /-- `DAMPING_KIND`. -/
  damping : Machine.DampingKind
  /-- `DAMP_Q`. -/
  dampQ : F32
  /-- `Q_MIN`. -/
  qMin : F32
  /-- `Q_MAX`. -/
  qMax : F32
  /-- `GAIN_DB_MAX`. -/
  gainDbMax : F32
  /-- `MATRIX_SCALE`. -/
  matrixScale : F32
  deriving DecidableEq, Repr, Inhabited

/-- The values of R3's table: the configuration FDNRV-4.  `DAMPING_KIND`, which the table leaves open, has the value the table
names where a single one is needed (log 7); the name of `NUM` is the model's (log 8). -/
def Parameters.table : Parameters :=
  { numName := 0
    queueCapacity := 16
    cdcLag := .arbitrary
    maxDelaySeconds := Config.one
    lineMemWords := 192001
    srMin := Config.one
    srMax := F32.ofBits 0x483B8000#32
    soundSpeed := F32.ofBits 0x43AB8000#32
    stableMax := F32.ofBits 0x3F7C0000#32
    sizeMin := Config.one
    sizeMax := F32.ofBits 0x42C80000#32
    sizeRst := F32.ofBits 0x41200000#32
    progMin := Config.one
    progMax := Config.two
    progRst := F32.ofBits 0x3FA00000#32
    decayMin := F32.zero
    decayMax := F32.ofBits 0x3F7C0000#32
    decayRst := Config.half
    absorbMin := F32.zero
    absorbMaxDiv := Config.two
    absorbRstDiv := Config.four
    hardMin := F32.ofBits 0x3A800000#32
    hardMax := F32.ofBits 0x44800000#32
    hardRst := Config.one
    drywetMin := F32.zero
    drywetMax := Config.one
    drywetRst := Config.half
    widthMin := F32.zero
    widthMax := Config.two
    widthRst := Config.one
    predelayMin := F32.zero
    predelayMax := Config.thousand
    predelayRst := F32.zero
    apGainRst := Config.half
    damping := .onePole
    dampQ := F32.ofBits 0x3F3504F3#32
    qMin := F32.ofBits 0x3A800000#32
    qMax := F32.ofBits 0x44800000#32
    gainDbMax := Config.forty
    matrixScale := Config.one }

/-- `ABSORB_MAX` at the latched sample rate: `fs / 2.0` in the table. -/
def Parameters.absorbMax (k : Parameters) (fs : F32) : F32 := fs.div k.absorbMaxDiv

/-- `ABSORB_RST` at the latched sample rate: `fs / 4.0` in the table. -/
def Parameters.absorbRst (k : Parameters) (fs : F32) : F32 := fs.div k.absorbRstDiv

/-- `lo <= rst <= hi`, both ends finite: what `clamp` asks of a range (R13), and that it holds its reset value. -/
abbrev F32.Ranges (lo rst hi : F32) : Prop :=
  lo.isFinite = true ∧ hi.isFinite = true ∧ F32.le lo rst = true ∧ F32.le rst hi = true

/-- The last column of R3's table: the constraints on other values.  `MATRIX_SCALE` may be 0, as that column says; decision D29 says
(0, 1] (log 31). -/
abbrev Parameters.Constraints (k : Parameters) : Prop :=
  1 ≤ k.queueCapacity ∧
  F32.lt F32.zero k.maxDelaySeconds = true ∧ k.maxDelaySeconds.isFinite = true ∧
  2 ≤ k.lineMemWords ∧
  (k.maxDelaySeconds.mul k.srMax).truncToNat + 1 ≤ k.lineMemWords ∧
  F32.lt F32.zero k.soundSpeed = true ∧
  F32.lt F32.zero k.stableMax = true ∧ F32.lt k.stableMax Config.one = true ∧
  F32.le k.sizeMin k.sizeRst = true ∧ F32.le k.sizeRst k.sizeMax = true ∧
  F32.le Config.one k.progMin = true ∧
  F32.lt k.decayMax Config.one = true ∧
  F32.lt F32.zero k.hardMin = true ∧
  F32.absLe k.apGainRst k.stableMax = true ∧
  F32.lt F32.zero k.dampQ = true ∧
  F32.le F32.zero k.matrixScale = true ∧ F32.le k.matrixScale Config.one = true

/-- What other rules presuppose of the parameters and R3's column does not say (log 26): every range is one a clamp can use (R13)
and holds its reset value (`70_reset_and_hazards.md` R340); the sample rates are positive, and a capacity is at least 2 (R341); `decay`
is at most `STABLE_MAX` in magnitude, as R3 says of `STABLE_MAX` (log 32). -/
abbrev Parameters.Presupposed (k : Parameters) : Prop :=
  F32.Ranges k.sizeMin k.sizeRst k.sizeMax ∧ F32.Ranges k.progMin k.progRst k.progMax ∧
  F32.Ranges k.decayMin k.decayRst k.decayMax ∧ F32.Ranges k.hardMin k.hardRst k.hardMax ∧
  F32.Ranges k.drywetMin k.drywetRst k.drywetMax ∧ F32.Ranges k.widthMin k.widthRst k.widthMax ∧
  F32.Ranges k.predelayMin k.predelayRst k.predelayMax ∧
  F32.lt F32.zero k.srMin = true ∧ F32.le k.srMin k.srMax = true ∧ k.srMax.isFinite = true ∧
  k.absorbMin.isFinite = true ∧ F32.le k.absorbMin (k.absorbRst k.srMin) = true ∧
  F32.lt F32.zero k.absorbMaxDiv = true ∧ F32.le k.absorbMaxDiv k.absorbRstDiv = true ∧ k.absorbRstDiv.isFinite = true ∧
  (k.absorbMax k.srMax).isFinite = true ∧
  F32.le k.stableMax.negate k.decayMin = true ∧ F32.le k.decayMax k.stableMax = true ∧
  2 ≤ (k.maxDelaySeconds.mul k.srMin).truncToNat + 1 ∧
  F32.lt F32.zero k.qMin = true ∧ F32.le k.qMin k.qMax = true ∧ k.qMax.isFinite = true ∧
  F32.le F32.zero k.gainDbMax = true ∧ k.gainDbMax.isFinite = true ∧ k.soundSpeed.isFinite = true

/-- Parameters a block can be built with. -/
abbrev Parameters.Legal (k : Parameters) : Prop := k.Constraints ∧ k.Presupposed

/-- The functions of `NUM` (`00_scope.md` R6): total functions of their argument alone, of which nothing is known but the
named properties of R6's table.  The default values only show that the properties can hold together; `Config.num` has no
body, so nothing can be proved of its values beyond the properties (log 8). -/
structure Num where
  exp : F32 → F32 := fun _ => Config.one
  tanh : F32 → F32 := fun a => F32.zeroOf a.sign
  sin : F32 → F32 := fun _ => Config.one
  cos : F32 → F32 := fun _ => Config.one
  pow10 : F32 → F32 := fun _ => Config.one
  tanh_zero : tanh (F32.zeroOf false) = F32.zeroOf false ∧ tanh (F32.zeroOf true) = F32.zeroOf true := by decide
  tanh_odd : ∀ a : F32, a.isFinite = true → tanh a.negate = (tanh a).negate := by
    intro a h; cases a <;> simp_all [F32.isFinite, F32.negate, F32.sign, F32.zeroOf]
  tanh_bound : ∀ a : F32, a.isNaN = false →
      F32.le Config.minusOne (tanh a) = true ∧ F32.le (tanh a) Config.one = true := by
    intro a _; cases a.sign <;> decide
  tanh_mono : ∀ a b : F32, F32.le a b = true → F32.le (tanh a) (tanh b) = true := by
    intro a b _; cases a.sign <;> cases b.sign <;> decide
  tanh_contract : ∀ a : F32, a.isFinite = true → F32.absLe (tanh a) a = true := by
    intro a h; cases a <;> simp_all [F32.isFinite, F32.absLe, F32.abs, F32.zeroOf, F32.le, F32.scaled, F32.magnitude, F32.significand]
    split <;> positivity
  exp_zero : exp (F32.zeroOf false) = Config.one ∧ exp (F32.zeroOf true) = Config.one := by decide
  exp_range : ∀ a : F32, F32.le a F32.zero = true →
      F32.le F32.zero (exp a) = true ∧ F32.le (exp a) Config.one = true := by intro a _; decide
  exp_mono : ∀ a b : F32, F32.le a b = true → F32.le (exp a) (exp b) = true := by intro a b _; decide
  sincos_bound : ∀ a : F32, a.isFinite = true →
      F32.absLe (sin a) Config.one = true ∧ F32.absLe (cos a) Config.one = true := by intro a _; decide
  sin_pos : ∀ a : F32, F32.lt F32.zero a = true → F32.lt a Config.pi = true →
      F32.lt F32.zero (sin a) = true := by intro a _ _; decide
  pow10_zero : pow10 (F32.zeroOf false) = Config.one ∧ pow10 (F32.zeroOf true) = Config.one := by decide
  pow10_pos : ∀ a : F32, F32.absLe a Config.one = true →
      F32.lt F32.zero (pow10 a) = true ∧ (pow10 a).isFinite = true := by intro a _; decide
  deriving Inhabited

/-- The real number a finite binary32 value stands for: `scaled` units of `2^-149`. -/
def F32.Denotes (a : F32) (r : ℝ) : Prop := a.isFinite = true ∧ r * 2 ^ 149 = (a.scaled : ℝ)

/-- `y` is one of the two binary32 values nearest the real number `r`: nothing representable lies between them. -/
def F32.IsNeighbour (y : F32) (r : ℝ) : Prop :=
  (∃ v, y.Denotes v ∧ v ≤ r ∧ ∀ z u, F32.Denotes z u → u ≤ r → u ≤ v) ∨
  (∃ v, y.Denotes v ∧ r ≤ v ∧ ∀ z u, F32.Denotes z u → r ≤ u → v ≤ u) ∨
  (y = .inf false ∧ ∀ z u, F32.Denotes z u → u < r) ∨
  (y = .inf true ∧ ∀ z u, F32.Denotes z u → r < u)

/-- The last row of R6's table, `faithful`, as a property a claim may assume; `Num` does not carry it (log 8). -/
def Num.Faithful (n : Num) : Prop :=
  ∀ (a : F32) (r : ℝ), a.Denotes r →
    (n.exp a).IsNeighbour (Real.exp r) ∧ (n.tanh a).IsNeighbour (Real.tanh r) ∧
    (n.sin a).IsNeighbour (Real.sin r) ∧ (n.cos a).IsNeighbour (Real.cos r) ∧
    (n.pow10 a).IsNeighbour ((10 : ℝ) ^ r)

/-- The instances of `NUM`, by name: uninterpreted (`00_scope.md` R6, D2; U6; log 8). -/
opaque Config.num : Nat → Num

/-- `NUM` of a block: the configuration field of R3's table. -/
def Parameters.num (k : Parameters) : Num := Config.num k.numName

/-- What slot `i` of `q_slot` holds after the `n`-th RESET, unspecified (`93_implementation_defined.md` U2): a free value. -/
opaque Config.unspecifiedSlot : Nat → Nat → MsgWord

/-- The engine after the `n`-th failed RESET, unspecified (`93_implementation_defined.md` U1): a free value. -/
opaque Config.unspecifiedEngine : Nat → Machine.Engine

/-- The queue after the `n`-th failed RESET, unspecified (U1): a free value. -/
opaque Config.unspecifiedQueue : Nat → Machine.Queue

end Sys2Proof
end

