-- ==== Sys2Proof/Machine/Ops.lean ====
section
/-!
DEFINITION. The named operations over the two kinds of memory (`20_memory.md` R62 to R64) and the index arithmetic of a ring
(`00_scope.md` R10): reading and writing one word of a sample memory, reading and writing one slot of the message memory,
advancing an index, the lagged read index.
The block has no exception, so there is no operation that takes one (`60_exceptions.md` R300, R312).
-/

namespace Sys2Proof.Machine

/-- `MemRead(buf, a, 1)` (`00_scope.md` R18): the word at index `a`. -/
def memRead (m : SampleMem) (a : Nat) : F32 :=
  match m with
  | [] => F32.zero
  | (b, v) :: rest => if a = b then v else memRead rest a

/-- The list with the word `v` put in front, unless it is what an unlisted index holds. -/
def memCons (a : Nat) (v : F32) (m : SampleMem) : SampleMem :=
  if v = F32.zero then m else (a, v) :: m

/-- `MemWrite(buf, a, 1, v)` (`00_scope.md` R18): the memory with `v` at index `a`. -/
def memWrite (m : SampleMem) (a : Nat) (v : F32) : SampleMem :=
  match m with
  | [] => memCons a v []
  | (b, u) :: rest =>
    if a < b then memCons a v ((b, u) :: rest)
    else if a = b then memCons a v rest
    else (b, u) :: memWrite rest a v

/-- Whether every listed index of `m` lies in `[lo, hi)`, in rising order, and no listed word is `+0`. -/
def memOk (lo hi : Nat) (m : SampleMem) : Bool :=
  match m with
  | [] => true
  | (a, v) :: rest => decide (lo ≤ a) && decide (a < hi) && decide (v ≠ F32.zero) && memOk (a + 1) hi rest

/-- The canonical form of a sample memory of `cap` words: indices strictly rising and below `cap`, no word listed that an
unlisted index would read as anyway. -/
def Memory.wf (cap : Nat) (m : SampleMem) : Bool := memOk 0 cap m

/-- An index moved on by one, modulo the capacity (R62, R64). -/
def advance (i cap : Nat) : Nat := (i + 1) % cap

/-- The index `dur` behind `w`: `(w + cap - dur) mod cap` (`00_scope.md` R10, `40_delayline.md` R121). -/
def lagged (w cap dur : Nat) : Nat := (w + cap - dur) % cap

/-- `MemRead(q_slot, n mod Q, 1)` (R63), `q` being `Q`. -/
def slotRead (q : Nat) (m : Slots) (n : Nat) : MsgWord := m.getD (n % q) 0

/-- `MemWrite(q_slot, n mod Q, 1, word)` (R63), `q` being `Q`. -/
def slotWrite (q : Nat) (m : Slots) (n : Nat) (word : MsgWord) : Slots := m.set (n % q) word

/-- The `tag` of a message word: bits 39:32 (`30_encoding.md` R91). -/
def msgTag (word : MsgWord) : Nat := word.toNat / 4294967296

/-- The `value` of a message word: the binary32 of bits 31:0 (R91, R93). -/
def msgValue (word : MsgWord) : F32 := F32.ofBits (BitVec.ofNat 32 word.toNat)

/-- The message word of a tag and a value: `tag * 2^32 + value` (R91). -/
def msgWord (tag : Nat) (value : F32) : MsgWord := BitVec.ofNat 40 (tag * 4294967296 + value.toBits.toNat)

end Sys2Proof.Machine
end

