-- ==== Sys2Proof/Syntax.lean ====
section
/-!
DEFINITION. The operations of the block (`30_encoding.md` R90 to R98): one constructor of `Instr` per row of
`spec/opcode_table.json`, and the components an operation of level C can act on.
-/

namespace Sys2Proof

/-- A DelayLine an operation acts on: one of the engine's thirteen (`10_state.md` R20), or one of the stand-alone bench
(log 6). -/
inductive LineRef where
  | pre
  | dl (i : Fin 4)
  | apIn (i : Fin 4)
  | apOut (i : Fin 4)
  | bench
  | benchApIn
  | benchApOut
  deriving DecidableEq, Repr, Inhabited

/-- A damping filter of the kind the operation is for (a Biquad or an OnePoleLowPass): the one of channel `i`, or the
stand-alone one of the bench. -/
inductive FilterRef where
  | damp (i : Fin 4)
  | bench
  deriving DecidableEq, Repr, Inhabited

/-- An Allpass an operation acts on. -/
inductive ApRef where
  | ap (i : Fin 4)
  | bench
  deriving DecidableEq, Repr, Inhabited

/-- The operations, with operands in the order of the table's `operands`; a constructor of a component (DL_NEW, BQ_NEW, OP_NEW,
AP_NEW) has in front the component whose record it makes (log 12). -/
inductive Instr where
  -- Level A: parameter messages (R92)
  | size (value : F32)
  | decay (value : F32)
  | absorption (value : F32)
  | hardness (value : F32)
  | progression (value : F32)
  | drywet (value : F32)
  | width (value : F32)
  | predelay (value : F32)
  -- Level B: port commands (R95, R96)
  | reset (sampleRate : F32)
  | enq (word : MsgWord)
  | deq
  | drain
  | render (xs : List F32)
  | callback (xs : List F32)
  -- Level C: engine (R96)
  | setSize (v : F32)
  | setDecay (v : F32)
  | setAbsorption (v : F32)
  | setHardness (v : F32)
  | setProgression (v : F32)
  | setDrywet (v : F32)
  | setWidth (v : F32)
  | setPredelay (v : F32)
  | fdnSample (x : F32)
  | rederiveLengths
  | applyAbsorption
  -- Level C: DelayLine
  | dlNew (l : LineRef) (c : Nat)
  | dlSetDuration (l : LineRef) (d : Nat)
  | dlWrite (l : LineRef) (x : F32)
  | dlRead (l : LineRef)
  | dlProcess (l : LineRef) (x : F32)
  | dlProcessBlock (l : LineRef) (xs : List F32)
  -- Level C: Biquad
  | bqSetLowpass (b : FilterRef) (nf q : F32)
  | bqSetHighpass (b : FilterRef) (nf q : F32)
  | bqSetBandpass (b : FilterRef) (nf q : F32)
  | bqSetLowshelf (b : FilterRef) (nf gainDb : F32)
  | bqSetHighshelf (b : FilterRef) (nf gainDb : F32)
  | bqSetPeaking (b : FilterRef) (nf q gainDb : F32)
  | bqSetAllpass (b : FilterRef) (nf q : F32)
  | bqSetNotch (b : FilterRef) (nf q : F32)
  | bqProcess (b : FilterRef) (x : F32)
  | bqNew (b : FilterRef)
  -- Level C: OnePoleLowPass
  | opNew (f : FilterRef) (sampleRate : F32)
  | opSetFrequency (f : FilterRef) (freq : F32)
  | opProcess (f : FilterRef) (x : F32)
  -- Level C: Allpass
  | apNew (a : ApRef) (c : Nat) (sampleRate : F32)
  | apSetDelay (a : ApRef) (seconds : F32)
  | apSetGain (a : ApRef) (g : F32)
  | apProcess (a : ApRef) (x : F32)
  | apSetDuration (a : ApRef) (d : Nat)
  -- Level C: Softclip
  | scSetHardness (h : F32)
  | scProcess (x : F32)
  -- Level C: Utils
  | coprime (start : Nat) (factor : F32) (count : Nat)
  | hadamard (n : Nat)
  | matvec (v : Quad F32) (m : Quad (Quad F32))
  -- Level C: the CDC agent
  | syncFwd
  | syncBack
  deriving DecidableEq, Repr, Inhabited

/-- The four agents (`00_scope.md` R15, `60_exceptions.md` R320). -/
inductive Agent where
  | host
  | control
  | audio
  | cdc
  deriving DecidableEq, Repr, Inhabited

/-- An operand passed beside an operation id (R93: a typed value, no bits of its own). -/
inductive Operand where
  | f32 (x : F32)
  | word (w : MsgWord)
  | nat (n : Nat)
  | block (xs : List F32)
  | vector (v : Quad F32)
  | matrix (m : Quad (Quad F32))
  | line (l : LineRef)
  | filter (f : FilterRef)
  | allpass (a : ApRef)
  deriving DecidableEq, Repr, Inhabited

/-- A transaction presented on a port: an operation id with its operands beside it (formats `CMD` and `UOP`, R90). -/
structure Command where
  id : BitVec 8
  operands : List Operand
  deriving DecidableEq, Repr, Inhabited

/-- An encoded operation: a word of format `MSG`, or a command (R90). -/
inductive Code where
  | msg (word : MsgWord)
  | cmd (c : Command)
  deriving DecidableEq, Repr, Inhabited

end Sys2Proof
end

