-- ==== Sys2Proof/WellFormed.lean ====
section
/-!
DEFINITION. The operand checks the spec makes on an operation before it is one: a DelayLine has at least one word
(`40_delayline.md` R120), and an Allpass's two lines have at least two
(`43_allpass.md` R180; log 22).  Every other operand is total: floating values of
every kind are accepted (`00_scope.md` R13, R14), lengths and durations are clamped, and component names are typed.
-/

namespace Sys2Proof

/-- Whether the operands are ones the spec gives the operation a meaning for. -/
def Instr.wellFormed (i : Instr) : Bool :=
  match i with
  | .dlNew _ c => decide (1 ≤ c)
  | .apNew _ c _ => decide (2 ≤ c)
  | .size _ | .decay _ | .absorption _ | .hardness _ | .progression _ | .drywet _ | .width _ | .predelay _ => true
  | .reset _ | .enq _ | .deq | .drain | .render _ | .callback _ => true
  | .setSize _ | .setDecay _ | .setAbsorption _ | .setHardness _ | .setProgression _ | .setDrywet _ | .setWidth _ => true
  | .setPredelay _ | .fdnSample _ | .rederiveLengths | .applyAbsorption => true
  | .dlSetDuration _ _ | .dlWrite _ _ | .dlRead _ | .dlProcess _ _ | .dlProcessBlock _ _ => true
  | .bqSetLowpass _ _ _ | .bqSetHighpass _ _ _ | .bqSetBandpass _ _ _ | .bqSetLowshelf _ _ _ => true
  | .bqSetHighshelf _ _ _ | .bqSetPeaking _ _ _ _ | .bqSetAllpass _ _ _ | .bqSetNotch _ _ _ => true
  | .bqProcess _ _ | .bqNew _ => true
  | .opNew _ _ | .opSetFrequency _ _ | .opProcess _ _ => true
  | .apSetDelay _ _ | .apSetGain _ _ | .apProcess _ _ | .apSetDuration _ _ => true
  | .scSetHardness _ | .scProcess _ => true
  | .coprime _ _ _ | .hadamard _ | .matvec _ _ => true
  | .syncFwd | .syncBack => true

end Sys2Proof
end

