-- ==== Sys2Proof/Decode.lean ====
section
/-!
DEFINITION. Decoding and encoding (`30_encoding.md` R90 to R97): a 40-bit message word by its tag, a command by its 8-bit
operation id and the operands beside it.  Reserved tags and unlisted ids decode to nothing, by name.
-/

namespace Sys2Proof

/-- The operations that have an 8-bit id (R96), levels B and C. -/
inductive Opcode where
  | reset
  | enq
  | deq
  | drain
  | render
  | callback
  | setSize
  | setDecay
  | setAbsorption
  | setHardness
  | setProgression
  | setDrywet
  | setWidth
  | setPredelay
  | fdnSample
  | rederiveLengths
  | applyAbsorption
  | dlNew
  | dlSetDuration
  | dlWrite
  | dlRead
  | dlProcess
  | dlProcessBlock
  | bqSetLowpass
  | bqSetHighpass
  | bqSetBandpass
  | bqSetLowshelf
  | bqSetHighshelf
  | bqSetPeaking
  | bqSetAllpass
  | bqSetNotch
  | bqProcess
  | bqNew
  | opNew
  | opSetFrequency
  | opProcess
  | apNew
  | apSetDelay
  | apSetGain
  | apProcess
  | apSetDuration
  | scSetHardness
  | scProcess
  | coprime
  | hadamard
  | matvec
  | syncFwd
  | syncBack
  deriving DecidableEq, Repr, Inhabited

/-- The id of each operation: the table of R96. -/
def Opcode.id (o : Opcode) : BitVec 8 :=
  match o with
  | .reset => 0x01#8
  | .enq => 0x02#8
  | .deq => 0x03#8
  | .drain => 0x04#8
  | .render => 0x05#8
  | .callback => 0x06#8
  | .setSize => 0x10#8
  | .setDecay => 0x11#8
  | .setAbsorption => 0x12#8
  | .setHardness => 0x13#8
  | .setProgression => 0x14#8
  | .setDrywet => 0x15#8
  | .setWidth => 0x16#8
  | .setPredelay => 0x17#8
  | .fdnSample => 0x18#8
  | .rederiveLengths => 0x19#8
  | .applyAbsorption => 0x1A#8
  | .dlNew => 0x20#8
  | .dlSetDuration => 0x21#8
  | .dlWrite => 0x22#8
  | .dlRead => 0x23#8
  | .dlProcess => 0x24#8
  | .dlProcessBlock => 0x25#8
  | .bqSetLowpass => 0x30#8
  | .bqSetHighpass => 0x31#8
  | .bqSetBandpass => 0x32#8
  | .bqSetLowshelf => 0x33#8
  | .bqSetHighshelf => 0x34#8
  | .bqSetPeaking => 0x35#8
  | .bqSetAllpass => 0x36#8
  | .bqSetNotch => 0x37#8
  | .bqProcess => 0x38#8
  | .bqNew => 0x39#8
  | .opNew => 0x40#8
  | .opSetFrequency => 0x41#8
  | .opProcess => 0x42#8
  | .apNew => 0x50#8
  | .apSetDelay => 0x51#8
  | .apSetGain => 0x52#8
  | .apProcess => 0x53#8
  | .apSetDuration => 0x54#8
  | .scSetHardness => 0x60#8
  | .scProcess => 0x61#8
  | .coprime => 0x70#8
  | .hadamard => 0x71#8
  | .matvec => 0x72#8
  | .syncFwd => 0x80#8
  | .syncBack => 0x81#8

/-- Every operation with an id, in the order of R96. -/
def Opcode.all : List Opcode :=
  [.reset, .enq, .deq, .drain, .render, .callback, .setSize, .setDecay, .setAbsorption, .setHardness, .setProgression, .setDrywet,
   .setWidth, .setPredelay, .fdnSample, .rederiveLengths, .applyAbsorption, .dlNew, .dlSetDuration, .dlWrite, .dlRead, .dlProcess, .dlProcessBlock, .bqSetLowpass,
   .bqSetHighpass, .bqSetBandpass, .bqSetLowshelf, .bqSetHighshelf, .bqSetPeaking, .bqSetAllpass, .bqSetNotch, .bqProcess, .bqNew, .opNew, .opSetFrequency, .opProcess,
   .apNew, .apSetDelay, .apSetGain, .apProcess, .apSetDuration, .scSetHardness, .scProcess, .coprime, .hadamard, .matvec, .syncFwd, .syncBack]

/-- The operation an id names; none for an id that R96 does not list (R97). -/
def Opcode.ofId (id : BitVec 8) : Option Opcode := Opcode.all.find? fun o => o.id == id

/-- Why a code decodes to no operation. -/
inductive DecodeError where
  /-- A message word whose tag is 8 to 255 (R94). -/
  | reservedTag (tag : Nat)
  /-- An operation id R96 does not list (R97). -/
  | unknownId (id : BitVec 8)
  /-- The operands beside the id are not those of the operation. -/
  | operandMismatch (o : Opcode)
  deriving DecidableEq, Repr

/-- The operation with the operands beside its id, or nothing when they are not its operands. -/
def Opcode.assemble (o : Opcode) (operands : List Operand) : Option Instr :=
  match o with
  | .reset => match operands with | [.f32 sr] => some (.reset sr) | _ => none
  | .enq => match operands with | [.word w] => some (.enq w) | _ => none
  | .deq => match operands with | [] => some (.deq) | _ => none
  | .drain => match operands with | [] => some (.drain) | _ => none
  | .render => match operands with | [.block xs] => some (.render xs) | _ => none
  | .callback => match operands with | [.block xs] => some (.callback xs) | _ => none
  | .setSize => match operands with | [.f32 v] => some (.setSize v) | _ => none
  | .setDecay => match operands with | [.f32 v] => some (.setDecay v) | _ => none
  | .setAbsorption => match operands with | [.f32 v] => some (.setAbsorption v) | _ => none
  | .setHardness => match operands with | [.f32 v] => some (.setHardness v) | _ => none
  | .setProgression => match operands with | [.f32 v] => some (.setProgression v) | _ => none
  | .setDrywet => match operands with | [.f32 v] => some (.setDrywet v) | _ => none
  | .setWidth => match operands with | [.f32 v] => some (.setWidth v) | _ => none
  | .setPredelay => match operands with | [.f32 v] => some (.setPredelay v) | _ => none
  | .fdnSample => match operands with | [.f32 x] => some (.fdnSample x) | _ => none
  | .rederiveLengths => match operands with | [] => some (.rederiveLengths) | _ => none
  | .applyAbsorption => match operands with | [] => some (.applyAbsorption) | _ => none
  | .dlNew => match operands with | [.line l, .nat c] => some (.dlNew l c) | _ => none
  | .dlSetDuration => match operands with | [.line l, .nat d] => some (.dlSetDuration l d) | _ => none
  | .dlWrite => match operands with | [.line l, .f32 x] => some (.dlWrite l x) | _ => none
  | .dlRead => match operands with | [.line l] => some (.dlRead l) | _ => none
  | .dlProcess => match operands with | [.line l, .f32 x] => some (.dlProcess l x) | _ => none
  | .dlProcessBlock => match operands with | [.line l, .block xs] => some (.dlProcessBlock l xs) | _ => none
  | .bqSetLowpass => match operands with | [.filter b, .f32 nf, .f32 q] => some (.bqSetLowpass b nf q) | _ => none
  | .bqSetHighpass => match operands with | [.filter b, .f32 nf, .f32 q] => some (.bqSetHighpass b nf q) | _ => none
  | .bqSetBandpass => match operands with | [.filter b, .f32 nf, .f32 q] => some (.bqSetBandpass b nf q) | _ => none
  | .bqSetLowshelf => match operands with | [.filter b, .f32 nf, .f32 g] => some (.bqSetLowshelf b nf g) | _ => none
  | .bqSetHighshelf => match operands with | [.filter b, .f32 nf, .f32 g] => some (.bqSetHighshelf b nf g) | _ => none
  | .bqSetPeaking => match operands with | [.filter b, .f32 nf, .f32 q, .f32 g] => some (.bqSetPeaking b nf q g) | _ => none
  | .bqSetAllpass => match operands with | [.filter b, .f32 nf, .f32 q] => some (.bqSetAllpass b nf q) | _ => none
  | .bqSetNotch => match operands with | [.filter b, .f32 nf, .f32 q] => some (.bqSetNotch b nf q) | _ => none
  | .bqProcess => match operands with | [.filter b, .f32 x] => some (.bqProcess b x) | _ => none
  | .bqNew => match operands with | [.filter b] => some (.bqNew b) | _ => none
  | .opNew => match operands with | [.filter f, .f32 sr] => some (.opNew f sr) | _ => none
  | .opSetFrequency => match operands with | [.filter f, .f32 fr] => some (.opSetFrequency f fr) | _ => none
  | .opProcess => match operands with | [.filter f, .f32 x] => some (.opProcess f x) | _ => none
  | .apNew => match operands with | [.allpass a, .nat c, .f32 sr] => some (.apNew a c sr) | _ => none
  | .apSetDelay => match operands with | [.allpass a, .f32 s] => some (.apSetDelay a s) | _ => none
  | .apSetGain => match operands with | [.allpass a, .f32 g] => some (.apSetGain a g) | _ => none
  | .apProcess => match operands with | [.allpass a, .f32 x] => some (.apProcess a x) | _ => none
  | .apSetDuration => match operands with | [.allpass a, .nat d] => some (.apSetDuration a d) | _ => none
  | .scSetHardness => match operands with | [.f32 h] => some (.scSetHardness h) | _ => none
  | .scProcess => match operands with | [.f32 x] => some (.scProcess x) | _ => none
  | .coprime => match operands with | [.nat n, .f32 f, .nat k] => some (.coprime n f k) | _ => none
  | .hadamard => match operands with | [.nat n] => some (.hadamard n) | _ => none
  | .matvec => match operands with | [.vector v, .matrix m] => some (.matvec v m) | _ => none
  | .syncFwd => match operands with | [] => some (.syncFwd) | _ => none
  | .syncBack => match operands with | [] => some (.syncBack) | _ => none

/-- A command decoded (R96, R97). -/
def decodeCmd (c : Command) : Except DecodeError Instr :=
  match Opcode.ofId c.id with
  | none => .error (.unknownId c.id)
  | some o =>
    match o.assemble c.operands with
    | some i => .ok i
    | none => .error (.operandMismatch o)

/-- A message word decoded (R91, R92, R94). -/
def decodeMsg (word : MsgWord) : Except DecodeError Instr :=
  let v := Machine.msgValue word
  match Machine.msgTag word with
  | 0 => .ok (.size v)
  | 1 => .ok (.decay v)
  | 2 => .ok (.absorption v)
  | 3 => .ok (.hardness v)
  | 4 => .ok (.progression v)
  | 5 => .ok (.drywet v)
  | 6 => .ok (.width v)
  | 7 => .ok (.predelay v)
  | t => .error (.reservedTag t)

/-- An encoded operation decoded. -/
def decode (c : Code) : Except DecodeError Instr :=
  match c with
  | .msg word => decodeMsg word
  | .cmd c => decodeCmd c

/-- The code of an operation: the message word of its tag and value, or its id and operands. -/
def encode (i : Instr) : Code :=
  match i with
  | .size v => .msg (Machine.msgWord 0 v)
  | .decay v => .msg (Machine.msgWord 1 v)
  | .absorption v => .msg (Machine.msgWord 2 v)
  | .hardness v => .msg (Machine.msgWord 3 v)
  | .progression v => .msg (Machine.msgWord 4 v)
  | .drywet v => .msg (Machine.msgWord 5 v)
  | .width v => .msg (Machine.msgWord 6 v)
  | .predelay v => .msg (Machine.msgWord 7 v)
  | .reset sr => .cmd ⟨Opcode.id .reset, [.f32 sr]⟩
  | .enq w => .cmd ⟨Opcode.id .enq, [.word w]⟩
  | .deq => .cmd ⟨Opcode.id .deq, []⟩
  | .drain => .cmd ⟨Opcode.id .drain, []⟩
  | .render xs => .cmd ⟨Opcode.id .render, [.block xs]⟩
  | .callback xs => .cmd ⟨Opcode.id .callback, [.block xs]⟩
  | .setSize v => .cmd ⟨Opcode.id .setSize, [.f32 v]⟩
  | .setDecay v => .cmd ⟨Opcode.id .setDecay, [.f32 v]⟩
  | .setAbsorption v => .cmd ⟨Opcode.id .setAbsorption, [.f32 v]⟩
  | .setHardness v => .cmd ⟨Opcode.id .setHardness, [.f32 v]⟩
  | .setProgression v => .cmd ⟨Opcode.id .setProgression, [.f32 v]⟩
  | .setDrywet v => .cmd ⟨Opcode.id .setDrywet, [.f32 v]⟩
  | .setWidth v => .cmd ⟨Opcode.id .setWidth, [.f32 v]⟩
  | .setPredelay v => .cmd ⟨Opcode.id .setPredelay, [.f32 v]⟩
  | .fdnSample x => .cmd ⟨Opcode.id .fdnSample, [.f32 x]⟩
  | .rederiveLengths => .cmd ⟨Opcode.id .rederiveLengths, []⟩
  | .applyAbsorption => .cmd ⟨Opcode.id .applyAbsorption, []⟩
  | .dlNew l c => .cmd ⟨Opcode.id .dlNew, [.line l, .nat c]⟩
  | .dlSetDuration l d => .cmd ⟨Opcode.id .dlSetDuration, [.line l, .nat d]⟩
  | .dlWrite l x => .cmd ⟨Opcode.id .dlWrite, [.line l, .f32 x]⟩
  | .dlRead l => .cmd ⟨Opcode.id .dlRead, [.line l]⟩
  | .dlProcess l x => .cmd ⟨Opcode.id .dlProcess, [.line l, .f32 x]⟩
  | .dlProcessBlock l xs => .cmd ⟨Opcode.id .dlProcessBlock, [.line l, .block xs]⟩
  | .bqSetLowpass b nf q => .cmd ⟨Opcode.id .bqSetLowpass, [.filter b, .f32 nf, .f32 q]⟩
  | .bqSetHighpass b nf q => .cmd ⟨Opcode.id .bqSetHighpass, [.filter b, .f32 nf, .f32 q]⟩
  | .bqSetBandpass b nf q => .cmd ⟨Opcode.id .bqSetBandpass, [.filter b, .f32 nf, .f32 q]⟩
  | .bqSetLowshelf b nf g => .cmd ⟨Opcode.id .bqSetLowshelf, [.filter b, .f32 nf, .f32 g]⟩
  | .bqSetHighshelf b nf g => .cmd ⟨Opcode.id .bqSetHighshelf, [.filter b, .f32 nf, .f32 g]⟩
  | .bqSetPeaking b nf q g => .cmd ⟨Opcode.id .bqSetPeaking, [.filter b, .f32 nf, .f32 q, .f32 g]⟩
  | .bqSetAllpass b nf q => .cmd ⟨Opcode.id .bqSetAllpass, [.filter b, .f32 nf, .f32 q]⟩
  | .bqSetNotch b nf q => .cmd ⟨Opcode.id .bqSetNotch, [.filter b, .f32 nf, .f32 q]⟩
  | .bqProcess b x => .cmd ⟨Opcode.id .bqProcess, [.filter b, .f32 x]⟩
  | .bqNew b => .cmd ⟨Opcode.id .bqNew, [.filter b]⟩
  | .opNew f sr => .cmd ⟨Opcode.id .opNew, [.filter f, .f32 sr]⟩
  | .opSetFrequency f fr => .cmd ⟨Opcode.id .opSetFrequency, [.filter f, .f32 fr]⟩
  | .opProcess f x => .cmd ⟨Opcode.id .opProcess, [.filter f, .f32 x]⟩
  | .apNew a c sr => .cmd ⟨Opcode.id .apNew, [.allpass a, .nat c, .f32 sr]⟩
  | .apSetDelay a s => .cmd ⟨Opcode.id .apSetDelay, [.allpass a, .f32 s]⟩
  | .apSetGain a g => .cmd ⟨Opcode.id .apSetGain, [.allpass a, .f32 g]⟩
  | .apProcess a x => .cmd ⟨Opcode.id .apProcess, [.allpass a, .f32 x]⟩
  | .apSetDuration a d => .cmd ⟨Opcode.id .apSetDuration, [.allpass a, .nat d]⟩
  | .scSetHardness h => .cmd ⟨Opcode.id .scSetHardness, [.f32 h]⟩
  | .scProcess x => .cmd ⟨Opcode.id .scProcess, [.f32 x]⟩
  | .coprime n f k => .cmd ⟨Opcode.id .coprime, [.nat n, .f32 f, .nat k]⟩
  | .hadamard n => .cmd ⟨Opcode.id .hadamard, [.nat n]⟩
  | .matvec v m => .cmd ⟨Opcode.id .matvec, [.vector v, .matrix m]⟩
  | .syncFwd => .cmd ⟨Opcode.id .syncFwd, []⟩
  | .syncBack => .cmd ⟨Opcode.id .syncBack, []⟩

/-- The operands a table word stands for, which has no operand bits: the least value of each operand's stated domain
(log 12). -/
def Opcode.leastOperands (o : Opcode) : List Operand :=
  match o with
  | .reset => [.f32 F32.zero]
  | .enq => [.word 0]
  | .deq => []
  | .drain => []
  | .render => [.block []]
  | .callback => [.block []]
  | .setSize => [.f32 F32.zero]
  | .setDecay => [.f32 F32.zero]
  | .setAbsorption => [.f32 F32.zero]
  | .setHardness => [.f32 F32.zero]
  | .setProgression => [.f32 F32.zero]
  | .setDrywet => [.f32 F32.zero]
  | .setWidth => [.f32 F32.zero]
  | .setPredelay => [.f32 F32.zero]
  | .fdnSample => [.f32 F32.zero]
  | .rederiveLengths => []
  | .applyAbsorption => []
  | .dlNew => [.line .bench, .nat 1]
  | .dlSetDuration => [.line .bench, .nat 0]
  | .dlWrite => [.line .bench, .f32 F32.zero]
  | .dlRead => [.line .bench]
  | .dlProcess => [.line .bench, .f32 F32.zero]
  | .dlProcessBlock => [.line .bench, .block []]
  | .bqSetLowpass => [.filter .bench, .f32 F32.zero, .f32 F32.zero]
  | .bqSetHighpass => [.filter .bench, .f32 F32.zero, .f32 F32.zero]
  | .bqSetBandpass => [.filter .bench, .f32 F32.zero, .f32 F32.zero]
  | .bqSetLowshelf => [.filter .bench, .f32 F32.zero, .f32 F32.zero]
  | .bqSetHighshelf => [.filter .bench, .f32 F32.zero, .f32 F32.zero]
  | .bqSetPeaking => [.filter .bench, .f32 F32.zero, .f32 F32.zero, .f32 F32.zero]
  | .bqSetAllpass => [.filter .bench, .f32 F32.zero, .f32 F32.zero]
  | .bqSetNotch => [.filter .bench, .f32 F32.zero, .f32 F32.zero]
  | .bqProcess => [.filter .bench, .f32 F32.zero]
  | .bqNew => [.filter .bench]
  | .opNew => [.filter .bench, .f32 F32.zero]
  | .opSetFrequency => [.filter .bench, .f32 F32.zero]
  | .opProcess => [.filter .bench, .f32 F32.zero]
  | .apNew => [.allpass .bench, .nat 2, .f32 F32.zero]
  | .apSetDelay => [.allpass .bench, .f32 F32.zero]
  | .apSetGain => [.allpass .bench, .f32 F32.zero]
  | .apProcess => [.allpass .bench, .f32 F32.zero]
  | .apSetDuration => [.allpass .bench, .nat 0]
  | .scSetHardness => [.f32 F32.zero]
  | .scProcess => [.f32 F32.zero]
  | .coprime => [.nat 1, .f32 (F32.ofBits 0x3F800000#32), .nat 0]
  | .hadamard => [.nat 1]
  | .matvec => [.vector (Quad.build fun _ => F32.zero), .matrix (Quad.build fun _ => Quad.build fun _ => F32.zero)]
  | .syncFwd => []
  | .syncBack => []

/-- The command a table word of 8 bits stands for. -/
def tableCommand (w : Nat) : Command :=
  let id := BitVec.ofNat 8 w
  match Opcode.ofId id with
  | some o => ⟨id, o.leastOperands⟩
  | none => ⟨id, []⟩

/-- What the decoder reads from a word of the opcode table: a message word when it has 40 bits, an operation id when it
has 8. -/
def decodeTableWord (nbits w : Nat) : Option Instr :=
  let code : Code := if nbits = 40 then .msg (BitVec.ofNat 40 w) else .cmd (tableCommand w)
  if nbits = 40 ∨ nbits = 8 then
    match decode code with
    | .ok i => some i
    | .error _ => none
  else none

end Sys2Proof
end

