-- ==== Sys2Proof/Machine/DelayLine.lean ====
section
/-!
DEFINITION. The DelayLine operations on a record (`40_delayline.md` R120 to R125).  Their meanings as steps of the machine
are in `Machine/ExecDelayLine.lean`.
-/

namespace Sys2Proof.Machine

/-- DL_SET_DURATION (R121). -/
def dlSetDuration (l : DelayLine) (d : Nat) : DelayLine :=
  let d' := min d (l.cap - 1)
  { l with dur := d', r := lagged l.w l.cap d' }

/-- DL_NEW (R120): `c` zeroed words, write index 0, the longest duration. -/
def dlNew (c : Nat) : DelayLine :=
  { cap := c, dur := c - 1, w := 0, r := lagged 0 c (c - 1), buf := [] }

/-- DL_WRITE (R122). -/
def dlWrite (l : DelayLine) (x : F32) : DelayLine :=
  { l with buf := memWrite l.buf l.w x, w := advance l.w l.cap }

/-- DL_READ (R123): the line after the read, and the word read. -/
def dlRead (l : DelayLine) : DelayLine × F32 :=
  ({ l with r := advance l.r l.cap }, memRead l.buf l.r)

/-- DL_PROCESS (R124): write, then read. -/
def dlProcess (l : DelayLine) (x : F32) : DelayLine × F32 := dlRead (dlWrite l x)

/-- DL_PROCESS_BLOCK (R125): DL_PROCESS of each sample in order. -/
def dlProcessBlock (l : DelayLine) (xs : List F32) : DelayLine × List F32 :=
  match xs with
  | [] => (l, [])
  | x :: rest =>
    let (l1, y) := dlProcess l x
    let (l2, ys) := dlProcessBlock l1 rest
    (l2, y :: ys)

end Sys2Proof.Machine
end

