-- ==== Sys2Proof/Machine/Allpass.lean ====
section
/-!
DEFINITION. The Allpass operations on a record (`43_allpass.md` R180 to R184).  Their meanings as steps of the machine are in
`Machine/ExecAllpass.lean`.
-/

namespace Sys2Proof.Machine

/-- AP_NEW (R180). -/
def apNew (k : Parameters) (c : Nat) (sampleRate : F32) : Allpass :=
  { inLine := dlNew c, outLine := dlNew c, gain := k.apGainRst, fs := sampleRate }

/-- AP_SET_DURATION (R181): one duration for both lines, raised to 1 and lowered to `cap - 1`. -/
def apSetDuration (a : Allpass) (d : Nat) : Allpass :=
  let d' := max 1 (min d (a.inLine.cap - 1))
  { a with inLine := dlSetDuration a.inLine d', outLine := dlSetDuration a.outLine d' }

/-- AP_SET_DELAY (R182). -/
def apSetDelay (a : Allpass) (seconds : F32) : Allpass := apSetDuration a (seconds.mul a.fs).truncToNat

/-- The stable range of a gain (R183). -/
def apStableGain (k : Parameters) (g : F32) : F32 := g.clamp k.stableMax.negate k.stableMax

/-- AP_SET_GAIN (R183). -/
def apSetGain (k : Parameters) (a : Allpass) (g : F32) : Allpass := { a with gain := apStableGain k g }

/-- AP_PROCESS (R184): the input side is written then read, the output side read then written. -/
def apProcess (a : Allpass) (x : F32) : Allpass × F32 :=
  let (inLine, di) := dlProcess a.inLine x
  let (outLine, dout) := dlRead a.outLine
  let y := ((a.gain.negate.mul x).add di).add (a.gain.mul dout)
  ({ a with inLine := inLine, outLine := dlWrite outLine y }, y)

end Sys2Proof.Machine
end

