-- ==== Sys2Proof/Machine/Biquad.lean ====
section
/-!
DEFINITION. The Biquad operations on a record (`41_biquad.md` R140 to R155).  Their meanings as steps of the machine are in
`Machine/ExecBiquad.lean`.
-/

namespace Sys2Proof.Machine

/-- BQ_NEW (R141): the identity filter with a zero history. -/
def bqNew : Biquad :=
  { b0 := Config.one, b1 := F32.zero, b2 := F32.zero, a1 := F32.zero, a2 := F32.zero
    x1 := F32.zero, x2 := F32.zero, y1 := F32.zero, y2 := F32.zero }

/-- NORMALIZE (R142): five divisions by `a0`. -/
def bqNormalize (b : Biquad) (b0 b1 b2 a0 a1 a2 : F32) : Biquad :=
  { b with b0 := b0.div a0, b1 := b1.div a0, b2 := b2.div a0, a1 := a1.div a0, a2 := a2.div a0 }

/-- CONST (R143): the constant-gain filter. -/
def bqConst (b : Biquad) (g : F32) : Biquad :=
  { b with b0 := g, b1 := F32.zero, b2 := F32.zero, a1 := F32.zero, a2 := F32.zero }

/-- The first statement of every setter (R140): `nf` clamped to `[0, 1]`. -/
def bqFrequency (nf : F32) : F32 := nf.clamp F32.zero Config.one

/-- `w0 = PI * nf` (R153). -/
def bqOmega (nf : F32) : F32 := Config.pi.mul nf

/-- `cs = cos(w0)` (R153). -/
def bqCos (n : Num) (nf : F32) : F32 := n.cos (bqOmega nf)

/-- `alpha = sin(w0) / (2.0 * q)` (R153). -/
def bqAlpha (n : Num) (nf q : F32) : F32 := (n.sin (bqOmega nf)).div (Config.two.mul q)

/-- The shelves' `alpha = sin(w0) / SQRT2` (R153). -/
def bqShelfAlpha (n : Num) (nf : F32) : F32 := (n.sin (bqOmega nf)).div Config.sqrt2

/-- `gain_db` clamped, and `A = 10^(gain_db / 40.0)` (R155). -/
def bqGain (k : Parameters) (gainDb : F32) : F32 :=
  k.num.pow10 ((gainDb.clamp k.gainDbMax.negate k.gainDbMax).div Config.forty)

/-- The end the six types with a Q share: `a0 = 1 + alpha`, `a1 = -2 cs`, `a2 = 1 - alpha` (R144 to R151 but the shelves
and peaking). -/
def bqFinish (b : Biquad) (cs alpha b0 b1 b2 : F32) : Biquad :=
  bqNormalize b b0 b1 b2 (Config.one.add alpha) (Config.minusTwo.mul cs) (Config.one.sub alpha)

/-- BQ_SET_LOWPASS (R144). -/
def bqSetLowpass (k : Parameters) (b : Biquad) (nf0 q0 : F32) : Biquad :=
  let nf := bqFrequency nf0
  if nf.feq Config.one then bqConst b Config.one
  else if nf.feq F32.zero then bqConst b F32.zero
  else
    let q := q0.clamp k.qMin k.qMax
    let cs := bqCos k.num nf
    let t := Config.one.sub cs
    bqFinish b cs (bqAlpha k.num nf q) (t.div Config.two) t (t.div Config.two)

/-- BQ_SET_HIGHPASS (R145). -/
def bqSetHighpass (k : Parameters) (b : Biquad) (nf0 q0 : F32) : Biquad :=
  let nf := bqFrequency nf0
  if nf.feq Config.one then bqConst b F32.zero
  else if nf.feq F32.zero then bqConst b Config.one
  else
    let q := q0.clamp k.qMin k.qMax
    let cs := bqCos k.num nf
    let t := Config.one.add cs
    bqFinish b cs (bqAlpha k.num nf q) (t.div Config.two) t.negate (t.div Config.two)

/-- BQ_SET_BANDPASS (R146). -/
def bqSetBandpass (k : Parameters) (b : Biquad) (nf0 q0 : F32) : Biquad :=
  let nf := bqFrequency nf0
  let q := q0.clamp F32.zero k.qMax
  if nf.feq F32.zero || nf.feq Config.one then bqConst b F32.zero
  else if q.feq F32.zero then bqConst b Config.one
  else
    let alpha := bqAlpha k.num nf q
    bqFinish b (bqCos k.num nf) alpha alpha F32.zero alpha.negate

/-- BQ_SET_LOWSHELF (R147). -/
def bqSetLowshelf (k : Parameters) (b : Biquad) (nf0 gainDb : F32) : Biquad :=
  let nf := bqFrequency nf0
  let a := bqGain k gainDb
  if nf.feq Config.one then bqConst b (a.mul a)
  else if nf.feq F32.zero then bqConst b Config.one
  else
    let cs := bqCos k.num nf
    let sq := (Config.two.mul a.sqrt).mul (bqShelfAlpha k.num nf)
    let ap := a.add Config.one
    let am := a.sub Config.one
    bqNormalize b
      (a.mul ((ap.sub (am.mul cs)).add sq))
      ((Config.two.mul a).mul (am.sub (ap.mul cs)))
      (a.mul ((ap.sub (am.mul cs)).sub sq))
      ((ap.add (am.mul cs)).add sq)
      (Config.minusTwo.mul (am.add (ap.mul cs)))
      ((ap.add (am.mul cs)).sub sq)

/-- BQ_SET_HIGHSHELF (R148). -/
def bqSetHighshelf (k : Parameters) (b : Biquad) (nf0 gainDb : F32) : Biquad :=
  let nf := bqFrequency nf0
  let a := bqGain k gainDb
  if nf.feq Config.one then bqConst b Config.one
  else if nf.feq F32.zero then bqConst b (a.mul a)
  else
    let cs := bqCos k.num nf
    let sq := (Config.two.mul a.sqrt).mul (bqShelfAlpha k.num nf)
    let ap := a.add Config.one
    let am := a.sub Config.one
    bqNormalize b
      (a.mul ((ap.add (am.mul cs)).add sq))
      ((Config.minusTwo.mul a).mul (am.add (ap.mul cs)))
      (a.mul ((ap.add (am.mul cs)).sub sq))
      ((ap.sub (am.mul cs)).add sq)
      (Config.two.mul (am.sub (ap.mul cs)))
      ((ap.sub (am.mul cs)).sub sq)

/-- BQ_SET_PEAKING (R149). -/
def bqSetPeaking (k : Parameters) (b : Biquad) (nf0 q0 gainDb : F32) : Biquad :=
  let nf := bqFrequency nf0
  let q := q0.clamp F32.zero k.qMax
  let a := bqGain k gainDb
  if nf.feq F32.zero || nf.feq Config.one then bqConst b Config.one
  else if q.feq F32.zero then bqConst b (a.mul a)
  else
    let cs := bqCos k.num nf
    let alpha := bqAlpha k.num nf q
    bqNormalize b
      (Config.one.add (alpha.mul a)) (Config.minusTwo.mul cs) (Config.one.sub (alpha.mul a))
      (Config.one.add (alpha.div a)) (Config.minusTwo.mul cs) (Config.one.sub (alpha.div a))

/-- BQ_SET_ALLPASS (R150). -/
def bqSetAllpass (k : Parameters) (b : Biquad) (nf0 q0 : F32) : Biquad :=
  let nf := bqFrequency nf0
  let q := q0.clamp F32.zero k.qMax
  if nf.feq F32.zero || nf.feq Config.one then bqConst b Config.one
  else if q.feq F32.zero then bqConst b Config.minusOne
  else
    let cs := bqCos k.num nf
    let alpha := bqAlpha k.num nf q
    bqFinish b cs alpha (Config.one.sub alpha) (Config.minusTwo.mul cs) (Config.one.add alpha)

/-- BQ_SET_NOTCH (R151). -/
def bqSetNotch (k : Parameters) (b : Biquad) (nf0 q0 : F32) : Biquad :=
  let nf := bqFrequency nf0
  let q := q0.clamp F32.zero k.qMax
  if nf.feq F32.zero || nf.feq Config.one then bqConst b Config.one
  else if q.feq F32.zero then bqConst b F32.zero
  else
    let cs := bqCos k.num nf
    bqFinish b cs (bqAlpha k.num nf q) Config.one (Config.minusTwo.mul cs) Config.one

/-- BQ_PROCESS (R152): the filter after the sample, and the output. -/
def bqProcess (b : Biquad) (x : F32) : Biquad × F32 :=
  let y := ((((b.b0.mul x).add (b.b1.mul b.x1)).add (b.b2.mul b.x2)).sub (b.a1.mul b.y1)).sub (b.a2.mul b.y2)
  ({ b with x2 := b.x1, x1 := x, y2 := b.y1, y1 := y }, y)

end Sys2Proof.Machine
end

