-- ==== Sys2Proof/Machine/OnePole.lean ====
section
/-!
DEFINITION. The OnePoleLowPass operations on a record (`42_onepole.md` R170 to R172).  Their meanings as steps of the machine
are in `Machine/ExecOnePole.lean`.
-/

namespace Sys2Proof.Machine

/-- OP_NEW (R170): transparent, with a zero state. -/
def opNew (sampleRate : F32) : OnePole :=
  { fs := sampleRate, a0 := Config.one, b1 := F32.zero, state := F32.zero }

/-- The argument of `NUM.exp` in OP_SET_FREQUENCY (R171): `-((TWO_PI * f) / fs)`, of the clamped `f`. -/
def opExponent (fs f : F32) : F32 :=
  ((Config.twoPi.mul (f.clamp F32.zero (fs.div Config.two))).div fs).negate

/-- OP_SET_FREQUENCY (R171). -/
def opSetFrequency (n : Num) (o : OnePole) (f : F32) : OnePole :=
  let b1 := n.exp (opExponent o.fs f)
  { o with b1 := b1, a0 := Config.one.sub b1 }

/-- OP_PROCESS (R172): the filter after the sample, and the output. -/
def opProcess (o : OnePole) (x : F32) : OnePole × F32 :=
  let y := (x.mul o.a0).add (o.state.mul o.b1)
  ({ o with state := y }, y)

end Sys2Proof.Machine
end

