-- ==== Sys2Proof/Machine/Softclip.lean ====
section
/-!
DEFINITION. The Softclip operations (`44_softclip.md` R195, R196).  The limiter has no state but `P[3]` (`10_state.md` R34).
-/

namespace Sys2Proof.Machine

/-- SC_SET_HARDNESS (R195): writes `P[3]`. -/
def scSetHardness (k : Parameters) (p : Params) (h : F32) : Params := { p with hardness := h.clamp k.hardMin k.hardMax }

/-- SC_PROCESS (R196), with the hardness `P[3]` as its first argument. -/
def scProcess (n : Num) (hardness x : F32) : F32 := (n.tanh (x.mul hardness)).div hardness

end Sys2Proof.Machine
end

