-- ==== Sys2Proof/Machine/Utils.lean ====
section
/-!
DEFINITION. The Utils functions (`45_utils.md` R205 to R212): COPRIME, HADAMARD, MATVEC.
-/

namespace Sys2Proof.Machine

/-- Whether `m` is coprime with every accepted value (`00_scope.md` R11). -/
def coprimeWithAll (acc : List Nat) (m : Nat) : Bool := acc.all (fun a => Nat.gcd m a == 1)

/-- The inner loop of COPRIME (R206): the first number from `m` upward that is coprime with every accepted value, trying
at most `fuel` increments. -/
def coprimeFrom (acc : List Nat) (fuel m : Nat) : Nat :=
  match fuel with
  | 0 => m
  | k + 1 => if coprimeWithAll acc m then m else coprimeFrom acc k (m + 1)

/-- Enough increments for the inner loop: among `prod acc` numbers in a row one is 1 modulo that product, and from a zero
one increment reaches 1 (log 21). -/
def coprimeFuel (acc : List Nat) : Nat := acc.foldl (· * ·) 1 + 1

/-- The outer loop of COPRIME (R206): `k` more values, from the candidate `c`, which the increments never change. -/
def coprimeLoop (factor : F32) (k c : Nat) (acc : List Nat) : List Nat :=
  match k with
  | 0 => acc
  | k + 1 =>
    let m := coprimeFrom acc (coprimeFuel acc) c
    coprimeLoop factor k ((F32.ofNat c).mul factor).truncToNat (acc ++ [m])

/-- COPRIME (R206). -/
def coprime (start : Nat) (factor : F32) (count : Nat) : List Nat := coprimeLoop factor count start []

/-- One doubling of HADAMARD (R210): four copies of `h`, the lower right negated. -/
def hadamardDouble (h : List (List Int)) : List (List Int) :=
  h.map (fun row => row ++ row) ++ h.map (fun row => row ++ row.map (fun e => -e))

/-- HADAMARD of `2^k` (R210). -/
def hadamardPow (k : Nat) : List (List Int) :=
  match k with
  | 0 => [[1]]
  | k + 1 => hadamardDouble (hadamardPow k)

/-- HADAMARD (R210): no matrix when `n` is 0 or not a power of two. -/
def hadamard (n : Nat) : Option (List (List Int)) :=
  if n = 2 ^ Nat.log2 n then some (hadamardPow (Nat.log2 n)) else none

/-- `toF32signed(+1) = 1.0`, `toF32signed(-1) = -1.0` (`10_state.md` R28), times `0.5 * MATRIX_SCALE`. -/
def mixEntry (k : Parameters) (h : List (List Int)) (i j : Fin 4) : F32 :=
  (Config.half.mul k.matrixScale).mul (if (h.getD i.val []).getD j.val 0 = 1 then Config.one else Config.minusOne)

/-- The feedback matrix (`10_state.md` R28). -/
def mixMatrix (k : Parameters) : Quad (Quad F32) :=
  match hadamard Config.nCh with
  | some h => Quad.build fun i => Quad.build fun j => mixEntry k h i j
  | none => Quad.build fun _ => Quad.build fun _ => F32.zero

/-- One row of MATVEC (R212), summed left to right. -/
def dotRow (row v : Quad F32) : F32 :=
  (((row.c0.mul v.c0).add (row.c1.mul v.c1)).add (row.c2.mul v.c2)).add (row.c3.mul v.c3)

/-- MATVEC (R212): the matrix times the column vector. -/
def matvec (v : Quad F32) (m : Quad (Quad F32)) : Quad F32 := m.map fun row => dotRow row v

end Sys2Proof.Machine
end

