-- ==== Sys2Proof/Machine/Engine.lean ====
section
/-!
DEFINITION. The network (`46_fdn_engine.md` R225 to R254) on the engine record: one sample, a block of samples, the helpers
and the eight parameter setters.  Their meanings as steps of the machine are in `Machine/ExecEngine.lean`.
-/

namespace Sys2Proof.Machine

/-- DAMP_PROCESS (R226), on the kind of filter that was built. -/
def dampProcess (d : Damp) (u : F32) : Damp × F32 :=
  match d with
  | .onePole f => (.onePole (opProcess f u).1, (opProcess f u).2)
  | .biquad b => (.biquad (bqProcess b u).1, (bqProcess b u).2)

/-- What one channel holds: its damping filter, its allpass, its main delay line. -/
structure Channel where
  damp : Damp
  ap : Allpass
  dl : DelayLine
  deriving DecidableEq, Repr, Inhabited

/-- Steps 1 to 4 of one channel (R240): the channel after the sample, and `lim`. -/
def channelSample (n : Num) (hardness p fb : F32) (c : Channel) : Channel × F32 :=
  let d := dampProcess c.damp (p.add fb)
  let a := apProcess c.ap d.2
  let e := dlProcess c.dl a.2
  ({ damp := d.1, ap := a.1, dl := e.1 }, scProcess n hardness e.2)

/-- Channel `i` of the engine. -/
def Engine.channel (e : Engine) (i : Fin 4) : Channel := { damp := e.damp.get i, ap := e.ap.get i, dl := e.dl.get i }

/-- Steps 1 to 4 of channel `i` (R240, R243). -/
def Engine.channelSample (e : Engine) (n : Num) (p : F32) (i : Fin 4) : Channel × F32 :=
  Sys2Proof.Machine.channelSample n e.p.hardness p (e.fb.get i) (e.channel i)

/-- The output stage of FDN_SAMPLE (R240, R241): left and right, from the raw input and the feedback register as step 6
wrote it. -/
def outputStage (drywet width x : F32) (fb : Quad F32) : F32 × F32 :=
  let dry := x.mul (Config.one.sub drywet)
  let l := dry.add (drywet.mul (fb.c0.add fb.c2))
  let r := dry.add (drywet.mul (fb.c1.add fb.c3))
  let mid := (l.add r).div Config.two
  let side := ((l.sub r).div Config.two).mul width
  (mid.add side, mid.sub side)

/-- FDN_SAMPLE (R240): the engine after the sample, left and right. -/
def fdnSample (n : Num) (e : Engine) (x : F32) : Engine × F32 × F32 :=
  let p := dlProcess e.pre x
  let ch := Quad.build fun i => e.channelSample n p.2 i
  let mixed := matvec (ch.map fun c => c.2) e.fbm
  let fb := mixed.map fun m => m.mul e.p.decay
  ({ e with
      pre := p.1
      damp := ch.map fun c => c.1.damp
      ap := ch.map fun c => c.1.ap
      dl := ch.map fun c => c.1.dl
      fb := fb },
    outputStage e.p.drywet e.p.width x fb)

/-- The loop of RENDER (R242): FDN_SAMPLE of each sample in order, left then right of each (`30_encoding.md` R102). -/
def renderLoop (n : Num) (e : Engine) (xs : List F32) : Engine × List F32 :=
  match xs with
  | [] => (e, [])
  | x :: rest =>
    let (e1, l, r) := fdnSample n e x
    let (e2, ys) := renderLoop n e1 rest
    (e2, l :: r :: ys)

/-- `base` of REDERIVE_LENGTHS (R245). -/
def baseLength (k : Parameters) (size fs : F32) : Nat := max 2 ((size.mul fs).div k.soundSpeed).truncToNat

/-- The first eight numbers of a list, as `len[0..7]`. -/
def lengthFile (ns : List Nat) : Oct Nat :=
  { e0 := ns.getD 0 0, e1 := ns.getD 1 0, e2 := ns.getD 2 0, e3 := ns.getD 3 0
    e4 := ns.getD 4 0, e5 := ns.getD 5 0, e6 := ns.getD 6 0, e7 := ns.getD 7 0 }

/-- The loop of REDERIVE_LENGTHS (R245): the allpass durations from `len[0..3]`, the main delays from `len[4..7]`. -/
def applyLengths (e : Engine) (n : Oct Nat) : Engine :=
  { e with
    len := n
    ap := { c0 := apSetDuration e.ap.c0 n.e0, c1 := apSetDuration e.ap.c1 n.e1
            c2 := apSetDuration e.ap.c2 n.e2, c3 := apSetDuration e.ap.c3 n.e3 }
    dl := { c0 := dlSetDuration e.dl.c0 n.e4, c1 := dlSetDuration e.dl.c1 n.e5
            c2 := dlSetDuration e.dl.c2 n.e6, c3 := dlSetDuration e.dl.c3 n.e7 } }

/-- REDERIVE_LENGTHS (R245). -/
def rederiveLengths (k : Parameters) (e : Engine) : Engine :=
  applyLengths e (lengthFile (coprime (baseLength k e.p.size e.fs) e.p.progression 8))

/-- One filter of APPLY_ABSORPTION (R254). -/
def dampSetCutoff (k : Parameters) (fs cutoff : F32) (d : Damp) : Damp :=
  match d with
  | .onePole f => .onePole (opSetFrequency k.num f cutoff)
  | .biquad b => .biquad (bqSetLowpass k b (cutoff.div (fs.div Config.two)) k.dampQ)

/-- APPLY_ABSORPTION (R254). -/
def applyAbsorption (k : Parameters) (e : Engine) : Engine :=
  { e with damp := e.damp.map fun d => dampSetCutoff k e.fs e.p.absorption d }

/-- SET_SIZE (R246). -/
def setSize (k : Parameters) (e : Engine) (v : F32) : Engine :=
  rederiveLengths k { e with p := { e.p with size := v.clamp k.sizeMin k.sizeMax } }

/-- SET_DECAY (R247): stores the clamped decay and re-clamps the four allpass gains. -/
def setDecay (k : Parameters) (e : Engine) (v : F32) : Engine :=
  { e with
    p := { e.p with decay := v.clamp k.decayMin k.decayMax }
    ap := e.ap.map fun a => { a with gain := apStableGain k a.gain } }

/-- SET_ABSORPTION (R248). -/
def setAbsorption (k : Parameters) (e : Engine) (v : F32) : Engine :=
  applyAbsorption k { e with p := { e.p with absorption := v.clamp k.absorbMin (k.absorbMax e.fs) } }

/-- SET_HARDNESS (R249): SC_SET_HARDNESS. -/
def setHardness (k : Parameters) (e : Engine) (v : F32) : Engine := { e with p := scSetHardness k e.p v }

/-- SET_PROGRESSION (R250). -/
def setProgression (k : Parameters) (e : Engine) (v : F32) : Engine :=
  rederiveLengths k { e with p := { e.p with progression := v.clamp k.progMin k.progMax } }

/-- SET_DRYWET (R251). -/
def setDrywet (k : Parameters) (e : Engine) (v : F32) : Engine :=
  { e with p := { e.p with drywet := v.clamp k.drywetMin k.drywetMax } }

/-- SET_WIDTH (R252). -/
def setWidth (k : Parameters) (e : Engine) (v : F32) : Engine :=
  { e with p := { e.p with width := v.clamp k.widthMin k.widthMax } }

/-- Milliseconds to whole samples (R253). -/
def predelaySamples (ms fs : F32) : Nat := ((ms.mul fs).div Config.thousand).truncToNat

/-- SET_PREDELAY (R253). -/
def setPredelay (k : Parameters) (e : Engine) (v : F32) : Engine :=
  let ms := v.clamp k.predelayMin k.predelayMax
  { e with p := { e.p with predelayMs := ms }, pre := dlSetDuration e.pre (predelaySamples ms e.fs) }

end Sys2Proof.Machine
end

