-- ==== Sys2Proof/Machine/Channel.lean ====
section
/-!
DEFINITION. The ParameterChannel (`47_parameter_channel.md` R270 to R279) on the queue record, and the dispatch of DRAIN on a
message word.  Their meanings as steps of the machine are in `Machine/ExecChannel.lean`.
-/

namespace Sys2Proof.Machine

/-- Whether the queue looks full from the control domain (R271). -/
def queueFull (k : Parameters) (q : Queue) : Bool := decide (q.tail - q.headSync = k.queueCapacity)

/-- Whether the queue looks empty from the audio domain (R272). -/
def queueEmpty (q : Queue) : Bool := decide (q.tailSync = q.head)

/-- A copied counter: moved along with its original when `CDC_LAG` is `ZERO` (R271, R272, R276). -/
def syncCopy (lag : CdcLag) (original copied : Nat) : Nat :=
  match lag with
  | .zero => original
  | .arbitrary => copied

/-- ENQ (R271): the queue after it, and `OK` (`true`) or `FAIL`. -/
def enqueue (k : Parameters) (q : Queue) (word : MsgWord) : Queue × Bool :=
  if queueFull k q then (q, false)
  else
    ({ q with
        slot := slotWrite k.queueCapacity q.slot q.tail word
        tail := q.tail + 1
        tailSync := syncCopy k.cdcLag (q.tail + 1) q.tailSync }, true)

/-- DEQ (R272): the queue after it, and `NONE` or `SOME(word)`. -/
def dequeue (k : Parameters) (q : Queue) : Queue × Option MsgWord :=
  if queueEmpty q then (q, none)
  else
    ({ q with
        head := q.head + 1
        headSync := syncCopy k.cdcLag (q.head + 1) q.headSync }, some (slotRead k.queueCapacity q.slot q.head))

/-- SYNC_FWD (R274), where it is enabled. -/
def syncForward (q : Queue) : Queue := { q with tailSync := q.tailSync + 1 }

/-- SYNC_BACK (R275), where it is enabled. -/
def syncBackward (q : Queue) : Queue := { q with headSync := q.headSync + 1 }

/-- The dispatch of DRAIN on the tag of a dequeued word (R277); a reserved tag applies nothing (R278). -/
def applyMessage (k : Parameters) (e : Engine) (word : MsgWord) : Engine :=
  let v := msgValue word
  match msgTag word with
  | 0 => setSize k e v
  | 1 => setDecay k e v
  | 2 => setAbsorption k e v
  | 3 => setHardness k e v
  | 4 => setProgression k e v
  | 5 => setDrywet k e v
  | 6 => setWidth k e v
  | 7 => setPredelay k e v
  | _ => e

/-- The queue after RESET (`70_reset_and_hazards.md` R340, R344): empty, the slots' contents given by `slots`. -/
def emptyQueue (slots : Slots) : Queue := { slot := slots, tail := 0, tailSync := 0, head := 0, headSync := 0 }

/-- The queue with `word` as its one message, visible to the audio domain: how a message is loaded for the step that runs
it (log 3). -/
def presentMessage (k : Parameters) (q : Queue) (word : MsgWord) : Queue :=
  { slot := slotWrite k.queueCapacity q.slot q.head word, tail := q.head + 1, tailSync := q.head + 1, head := q.head, headSync := q.head }

end Sys2Proof.Machine
end

