-- ==== Sys2Proof/Machine/Reset.lean ====
section
/-!
DEFINITION. What RESET computes (`70_reset_and_hazards.md` R340, R341): its two tests and the engine of a fresh
configuration.  Its meaning as a step of the machine is in `Machine/ExecReset.lean`.
-/

namespace Sys2Proof.Machine

/-- The capacity a sample rate implies (R340). -/
def capacityOf (k : Parameters) (sampleRate : F32) : Nat := (k.maxDelaySeconds.mul sampleRate).truncToNat + 1

/-- Whether RESET succeeds (R341): the rate is in range, then the lines fit their memories. -/
def resetAccepts (k : Parameters) (sampleRate : F32) : Bool :=
  k.srMin.le sampleRate && !k.srMax.lt sampleRate && decide (capacityOf k sampleRate ≤ k.lineMemWords)

/-- The parameter registers after RESET (`10_state.md` R26, R37). -/
def resetParams (k : Parameters) (sampleRate : F32) : Params :=
  { size := k.sizeRst, decay := k.decayRst, absorption := k.absorbRst sampleRate
    hardness := k.hardRst, progression := k.progRst, drywet := k.drywetRst
    width := k.widthRst, predelayMs := k.predelayRst }

/-- The damping filter RESET builds, before its cutoff is set (R340). -/
def dampNew (kind : DampingKind) (sampleRate : F32) : Damp :=
  match kind with
  | .onePole => .onePole (opNew sampleRate)
  | .biquad => .biquad bqNew

/-- The engine as RESET has created it, before the three derivations at its end (R340). -/
def createdEngine (k : Parameters) (sampleRate : F32) : Engine :=
  let cap := capacityOf k sampleRate
  { fs := sampleRate
    cap := cap
    p := resetParams k sampleRate
    len := lengthFile []
    fb := Quad.build fun _ => F32.zero
    fbm := mixMatrix k
    damp := Quad.build fun _ => dampNew k.damping sampleRate
    ap := Quad.build fun _ => apNew k cap sampleRate
    dl := Quad.build fun _ => dlNew cap
    pre := dlSetDuration (dlNew cap) (predelaySamples k.predelayRst sampleRate) }

/-- The engine after a successful RESET (R340). -/
def freshEngine (k : Parameters) (sampleRate : F32) : Engine :=
  applyAbsorption k (rederiveLengths k (createdEngine k sampleRate))

end Sys2Proof.Machine
end

