-- ==== Sys2Proof/Machine/State.lean ====
section
/-!
DEFINITION. The state of the machine: the block's state (`10_state.md` R20), the parameters it was built with, and the model's own
fields; the reasons a step can stop; the state right after reset.
-/

namespace Sys2Proof.Machine

/-- The state.  `cfgOk`, `seq`, `eng` and `queue` are the block's (`10_state.md` R20); `par` is the configuration it was built
with, which no operation writes (`00_scope.md` R3; logs 7, 26); the rest is the model's own (logs 3, 5, 6, 11). -/
structure State where
  /-- `cfg_ok` (R22). -/
  cfgOk : Bool
  /-- The sequencer (R24). -/
  seq : Seq
  /-- What the audio agent owns (R21). -/
  eng : Engine
  /-- The parameter queue (R36). -/
  queue : Queue
  /-- The parameter table (`00_scope.md` R3). -/
  par : Parameters
  /-- The stand-alone components. -/
  bench : Bench
  /-- The transactions presented on the ports and not yet executed, oldest first. -/
  pending : List Command
  /-- What the last RESET returned to the host on port `CFG` (`30_encoding.md` R95, R98). -/
  cfgOut : Result
  /-- What the last ENQ returned to the control agent on port `CTRL`. -/
  ctrlOut : Result
  /-- What the last operation of the audio agent returned. -/
  audioOut : Result
  /-- The number of free values taken so far. -/
  freeCount : Nat
  deriving DecidableEq, Repr, Inhabited

/-- Why the machine stops with a fault.  No operation of the block traps, aborts or leaves it unable to continue
(`60_exceptions.md` R300, R312), so there is no reason: the type is empty (log 25). -/
inductive Fault
  deriving DecidableEq, Repr

/-- Why an operation is not a step of the machine. -/
inductive Refusal where
  /-- An operation that has no meaning yet; raised by `exec` alone.  Safe. -/
  | notModelled (mnemonic : String)
  /-- Raised by `step` for a command whose id R96 does not list (`30_encoding.md` R97: the machine takes no step), or whose
  operands are not those of its id.  Safe. -/
  | noOperation
  /-- Raised by `step` and by DL_NEW for a line of no words (`40_delayline.md` R120: a model refuses it), and by AP_NEW for lines of
  fewer than two, which are no Allpass (`10_state.md` R33, `43_allpass.md` R180; log 22).  Safe. -/
  | noCapacity
  /-- Raised by DL_NEW, BQ_NEW, OP_NEW and AP_NEW on a component of the engine, which RESET alone makes (`20_memory.md` R65,
  `60_exceptions.md` R320), and by DL_NEW on a line inside an Allpass, which its AP_NEW makes (`90_conflicts.md` C9; log 6).  Safe. -/
  | madeElsewhere
  /-- Raised by every command its sequencer state or `cfg_ok` does not accept (`60_exceptions.md` R307 f, U11: not a step of
  the machine).  Safe. -/
  | notAccepted
  /-- Raised by SYNC_FWD and SYNC_BACK where the step is not enabled (`47_parameter_channel.md` R274 to R276).  Safe. -/
  | syncNotEnabled
  /-- Raised by BQ_* and OP_* on a channel whose damping filter is of the other kind, which was not built
  (`10_state.md` R31, R32; log 20).  Safe. -/
  | absentFilter
  deriving DecidableEq, Repr

/-- The outcome of a step of this machine. -/
abbrev Out := Host.Outcome State Fault Refusal

/-- The stand-alone components before any operation on them (log 6). -/
def Bench.initial (k : Parameters) : Bench :=
  { line := dlNew 1, bq := bqNew, op := opNew F32.zero, ap := apNew k 2 F32.zero }

/-- 48000.0 Hz, the sample rate of the RESET that `State.reset` is the state after (log 1). -/
def State.resetRate : F32 := F32.ofBits 0x473B8000#32

/-- The machine right after a successful RESET(48000.0) (`10_state.md` R37; logs 1, 5, 6, 7, 10, 11, 26). -/
def State.reset : State :=
  { cfgOk := true
    seq := .idle
    eng := freshEngine Parameters.table State.resetRate
    queue := emptyQueue (List.replicate 16 0#40)
    par := Parameters.table
    bench := Bench.initial Parameters.table
    pending := []
    cfgOut := .resetStatus true
    ctrlOut := .none
    audioOut := .none
    freeCount := 0 }

/-- The machine at power-on (`70_reset_and_hazards.md` R342): unconfigured, everything else unspecified (U1). -/
def State.powerOn : State :=
  { State.reset with
    cfgOk := false
    seq := .unconfigured
    eng := Config.unspecifiedEngine 0
    queue := Config.unspecifiedQueue 0
    cfgOut := .none
    freeCount := 1 }

end Sys2Proof.Machine
end

