-- ==== Sys2Proof/Machine/Flags.lean ====
section
/-!
DEFINITION. Status results and conditions.  The block has no stored flag (`10_state.md` R29); what it has is the result a
transaction returns, its bits on the wire (`30_encoding.md` R98), and the four conditions of `60_exceptions.md` R302 to
R306, which no register holds.
-/

namespace Sys2Proof.Machine

/-- The state after an audio operation has returned `r`. -/
def State.returning (s : State) (r : Result) : State := { s with audioOut := r }

/-- A status bit as R98 lays it out: 1 for `OK` and `RESET_OK`, 0 for `FAIL` and `RESET_FAIL`; the valid bit of DEQ.
None for an operation that returns no status. -/
def Result.statusBit (r : Result) : Option (BitVec 1) :=
  match r with
  | .resetStatus ok => some (if ok then 1#1 else 0#1)
  | .enqStatus ok => some (if ok then 1#1 else 0#1)
  | .dequeued (some _) => some 1#1
  | .dequeued Option.none => some 0#1
  | .none | .sample _ | .stereo _ _ | .block _ | .lengths _ | .matrix _ | .vector _ => Option.none

/-- The conditions of R306. -/
inductive Condition where
  | cfgRange
  | capRange
  | queueFull
  | resetFail
  deriving DecidableEq, Repr

/-- The code of a condition (R306, D37): a label, held by no register. -/
def Condition.code (c : Condition) : Nat :=
  match c with
  | .cfgRange => 1
  | .capRange => 2
  | .queueFull => 3
  | .resetFail => 4

/-- `CFG_RANGE` is met by an argument outside `[lo, hi]`, NaN included (R302). -/
def cfgRangeMet (v lo hi : F32) : Bool := !(lo.le v && v.le hi)

/-- `CAP_RANGE` is met by a requested duration above `cap - 1` (R303). -/
def capRangeMet (l : DelayLine) (d : Nat) : Bool := decide (l.cap - 1 < d)

/-- `QUEUE_FULL` is met by ENQ on a queue that looks full (R304). -/
def queueFullMet (s : State) : Bool := Sys2Proof.Machine.queueFull s.par s.queue

/-- `RESET_FAIL` is met by RESET at a rate it does not accept (R305). -/
def resetFailMet (k : Parameters) (sampleRate : F32) : Bool := !resetAccepts k sampleRate

end Sys2Proof.Machine
end

