-- ==== Sys2Proof/Machine/Operands.lean ====
section
/-!
DEFINITION. The component operands: reading and replacing the DelayLine, Biquad, OnePoleLowPass or Allpass that an operand
names; and the gates, which say in which sequencer states an operation is executed (`10_state.md` R24, `30_encoding.md` R95,
`60_exceptions.md` R320, `70_reset_and_hazards.md` R342, R343).
-/

namespace Sys2Proof.Machine

/-- The DelayLine an operand names. -/
def State.line (s : State) (l : LineRef) : DelayLine :=
  match l with
  | .pre => s.eng.pre
  | .dl i => s.eng.dl.get i
  | .apIn i => (s.eng.ap.get i).inLine
  | .apOut i => (s.eng.ap.get i).outLine
  | .bench => s.bench.line
  | .benchApIn => s.bench.ap.inLine
  | .benchApOut => s.bench.ap.outLine

/-- The state with the named DelayLine replaced. -/
def State.setLine (s : State) (l : LineRef) (d : DelayLine) : State :=
  match l with
  | .pre => { s with eng := { s.eng with pre := d } }
  | .dl i => { s with eng := { s.eng with dl := s.eng.dl.set i d } }
  | .apIn i => { s with eng := { s.eng with ap := s.eng.ap.set i { s.eng.ap.get i with inLine := d } } }
  | .apOut i => { s with eng := { s.eng with ap := s.eng.ap.set i { s.eng.ap.get i with outLine := d } } }
  | .bench => { s with bench := { s.bench with line := d } }
  | .benchApIn => { s with bench := { s.bench with ap := { s.bench.ap with inLine := d } } }
  | .benchApOut => { s with bench := { s.bench with ap := { s.bench.ap with outLine := d } } }

/-- The Allpass an operand names. -/
def State.allpass (s : State) (a : ApRef) : Allpass :=
  match a with
  | .ap i => s.eng.ap.get i
  | .bench => s.bench.ap

/-- The state with the named Allpass replaced. -/
def State.setAllpass (s : State) (a : ApRef) (v : Allpass) : State :=
  match a with
  | .ap i => { s with eng := { s.eng with ap := s.eng.ap.set i v } }
  | .bench => { s with bench := { s.bench with ap := v } }

/-- The Biquad an operand names; none where the channel's damping filter is a one-pole. -/
def State.biquad (s : State) (f : FilterRef) : Option Biquad :=
  match f with
  | .damp i =>
    match s.eng.damp.get i with
    | .biquad b => some b
    | .onePole _ => none
  | .bench => some s.bench.bq

/-- The state with the named Biquad replaced. -/
def State.setBiquad (s : State) (f : FilterRef) (b : Biquad) : State :=
  match f with
  | .damp i => { s with eng := { s.eng with damp := s.eng.damp.set i (.biquad b) } }
  | .bench => { s with bench := { s.bench with bq := b } }

/-- The OnePoleLowPass an operand names; none where the channel's damping filter is a biquad. -/
def State.onePole (s : State) (f : FilterRef) : Option OnePole :=
  match f with
  | .damp i =>
    match s.eng.damp.get i with
    | .onePole o => some o
    | .biquad _ => none
  | .bench => some s.bench.op

/-- The state with the named OnePoleLowPass replaced. -/
def State.setOnePole (s : State) (f : FilterRef) (o : OnePole) : State :=
  match f with
  | .damp i => { s with eng := { s.eng with damp := s.eng.damp.set i (.onePole o) } }
  | .bench => { s with bench := { s.bench with op := o } }

/-- Whether a sequencer state is one in which the audio agent has steps at all (`10_state.md` R24). -/
def Seq.configured (q : Seq) : Bool :=
  match q with
  | .unconfigured => false
  | .idle | .draining | .rendering _ => true

/-- Whether it is IDLE. -/
def Seq.isIdle (q : Seq) : Bool :=
  match q with
  | .idle => true
  | .unconfigured | .draining | .rendering _ => false

/-- Whether it is DRAINING, the middle of a DRAIN. -/
def Seq.isDraining (q : Seq) : Bool :=
  match q with
  | .draining => true
  | .unconfigured | .idle | .rendering _ => false

/-- Whether it is RENDERING(k), the middle of a RENDER. -/
def Seq.isRendering (q : Seq) : Bool :=
  match q with
  | .rendering _ => true
  | .unconfigured | .idle | .draining => false

/-- Whether it is IDLE or DRAINING, where a DEQ is enabled (`47_parameter_channel.md` R272). -/
def Seq.betweenBlocks (q : Seq) : Bool :=
  match q with
  | .idle | .draining => true
  | .unconfigured | .rendering _ => false

/-- Whether RESET is accepted: UNCONFIGURED or IDLE (`70_reset_and_hazards.md` R343). -/
def Seq.canReset (q : Seq) : Bool :=
  match q with
  | .unconfigured | .idle => true
  | .draining | .rendering _ => false

/-- The step, where the command is accepted; otherwise it is not a step of the machine (`60_exceptions.md` R307 f). -/
def accepted (ok : Bool) (s' : State) : Out := if ok then .next s' else .refused .notAccepted

/-- Where the audio agent executes an operation (`60_exceptions.md` R320). -/
inductive Stage where
  /-- As a transaction of its own. -/
  | command
  /-- Inside a DRAIN, in DRAINING: what sets the engine (`46_fdn_engine.md` R257; log 27). -/
  | drain
  /-- Inside a RENDER, in RENDERING(k): what computes a sample on the engine (`46_fdn_engine.md` R242; log 24). -/
  | render
  /-- Inside an operation on the stand-alone Allpass that owns the line (`43_allpass.md` R181, R184). -/
  | part
  deriving DecidableEq, Repr

/-- Whether the configured block is at the stage (R342). -/
def State.admits (s : State) (g : Stage) : Bool :=
  s.cfgOk && (match g with
    | .command | .part => s.seq.configured
    | .drain => s.seq.isDraining
    | .render => s.seq.isRendering)

/-- A DEQ (R272). -/
def State.canDequeue (s : State) : Bool := s.cfgOk && s.seq.betweenBlocks

/-- The stage of an operation on a DelayLine: `g` for a line of the engine. -/
def LineRef.stage (l : LineRef) (g : Stage) : Stage :=
  match l with
  | .pre | .dl _ | .apIn _ | .apOut _ => g
  | .bench => .command
  | .benchApIn | .benchApOut => .part

/-- The stage of an operation on a damping filter: `g` for one of the engine. -/
def FilterRef.stage (f : FilterRef) (g : Stage) : Stage :=
  match f with
  | .damp _ => g
  | .bench => .command

/-- The stage of an operation on an Allpass: `g` for one of the engine. -/
def ApRef.stage (a : ApRef) (g : Stage) : Stage :=
  match a with
  | .ap _ => g
  | .bench => .command

/-- The stage of an operation (R320; logs 19, 24, 27).  An operation that makes a component is one of its own where it is executed at
all, which is on a stand-alone component. -/
def stage (i : Instr) : Stage :=
  match i with
  | .size _ | .decay _ | .absorption _ | .hardness _ | .progression _ | .drywet _ | .width _ | .predelay _ => .drain
  | .setSize _ | .setDecay _ | .setAbsorption _ | .setHardness _ | .setProgression _ | .setDrywet _ | .setWidth _ => .drain
  | .setPredelay _ | .rederiveLengths | .applyAbsorption | .scSetHardness _ => .drain
  | .fdnSample _ | .scProcess _ => .render
  | .dlSetDuration l _ => LineRef.stage l .drain
  | .dlWrite l _ | .dlRead l | .dlProcess l _ | .dlProcessBlock l _ => LineRef.stage l .render
  | .bqSetLowpass b _ _ | .bqSetHighpass b _ _ | .bqSetBandpass b _ _ | .bqSetLowshelf b _ _ => FilterRef.stage b .drain
  | .bqSetHighshelf b _ _ | .bqSetPeaking b _ _ _ | .bqSetAllpass b _ _ | .bqSetNotch b _ _ => FilterRef.stage b .drain
  | .opSetFrequency f _ => FilterRef.stage f .drain
  | .bqProcess b _ => FilterRef.stage b .render
  | .opProcess f _ => FilterRef.stage f .render
  | .apSetDelay a _ | .apSetGain a _ | .apSetDuration a _ => ApRef.stage a .drain
  | .apProcess a _ => ApRef.stage a .render
  | .dlNew _ _ | .bqNew _ | .opNew _ _ | .apNew _ _ _ => .command
  | .reset _ | .enq _ | .deq | .drain | .render _ | .callback _ | .syncFwd | .syncBack => .command
  | .coprime _ _ _ | .hadamard _ | .matvec _ _ => .command

/-- Whether a line is made by DL_NEW alone: the stand-alone one.  The engine's lines are never resized after RESET
(`20_memory.md` R65), and the two lines of an Allpass have the capacity its AP_NEW gave them (`90_conflicts.md` C9). -/
def LineRef.remade (l : LineRef) : Bool :=
  match l with
  | .bench => true
  | .pre | .dl _ | .apIn _ | .apOut _ | .benchApIn | .benchApOut => false

/-- Whether a filter may be made again: the stand-alone one (R320). -/
def FilterRef.remade (f : FilterRef) : Bool :=
  match f with
  | .bench => true
  | .damp _ => false

/-- Whether an Allpass may be made again: the stand-alone one (R65). -/
def ApRef.remade (a : ApRef) : Bool :=
  match a with
  | .bench => true
  | .ap _ => false

/-- A step that changes the named Biquad by `f` and returns what `f` returns; `g` is its stage on a filter of the engine. -/
def onBiquad (s : State) (g : Stage) (r : FilterRef) (f : Biquad → Biquad × Result) : Out :=
  match s.biquad r with
  | some b => accepted (s.admits (FilterRef.stage r g)) ((s.setBiquad r (f b).1).returning (f b).2)
  | none => if s.admits (FilterRef.stage r g) then .refused .absentFilter else .refused .notAccepted

/-- A step that changes the named OnePoleLowPass by `f` and returns what `f` returns. -/
def onOnePole (s : State) (g : Stage) (r : FilterRef) (f : OnePole → OnePole × Result) : Out :=
  match s.onePole r with
  | some o => accepted (s.admits (FilterRef.stage r g)) ((s.setOnePole r (f o).1).returning (f o).2)
  | none => if s.admits (FilterRef.stage r g) then .refused .absentFilter else .refused .notAccepted

/-- A step that changes the named DelayLine by `f` and returns what `f` returns. -/
def onLine (s : State) (g : Stage) (r : LineRef) (f : DelayLine → DelayLine × Result) : Out :=
  accepted (s.admits (LineRef.stage r g)) ((s.setLine r (f (s.line r)).1).returning (f (s.line r)).2)

/-- A step that changes the named Allpass by `f` and returns what `f` returns. -/
def onAllpass (s : State) (g : Stage) (r : ApRef) (f : Allpass → Allpass × Result) : Out :=
  accepted (s.admits (ApRef.stage r g)) ((s.setAllpass r (f (s.allpass r)).1).returning (f (s.allpass r)).2)

/-- A step that changes the engine as a setter does, and returns nothing. -/
def onSetter (s : State) (e : Engine) : Out := accepted (s.admits .drain) ({ s with eng := e }.returning .none)

/-- A step that changes nothing but the result: a pure function evaluated by the audio agent (`44_softclip.md` R196, `45_utils.md`
R205). -/
def onPure (s : State) (g : Stage) (r : Result) : Out := accepted (s.admits g) (s.returning r)

end Sys2Proof.Machine
end

