-- ==== Sys2Proof/Machine/ExecAllpass.lean ====
section
/-!
DEFINITION. The meanings of the Allpass operations (`43_allpass.md` R180 to R184).
-/

namespace Sys2Proof.Machine

/-- AP_NEW (R180).  Lines of fewer than two words are refused (log 22), and so are lines whose capacity is fixed
(`20_memory.md` R65; log 6). -/
def execApNew (a : ApRef) (c : Nat) (sampleRate : F32) (s : State) : Out :=
  if c < 2 then .refused .noCapacity
  else if ApRef.remade a then onAllpass s .command a fun _ => (Sys2Proof.Machine.apNew s.par c sampleRate, .none)
  else .refused .madeElsewhere

/-- AP_SET_DELAY (R182). -/
def execApSetDelay (a : ApRef) (seconds : F32) (s : State) : Out :=
  onAllpass s .drain a fun v => (Sys2Proof.Machine.apSetDelay v seconds, .none)

/-- AP_SET_GAIN (R183). -/
def execApSetGain (a : ApRef) (g : F32) (s : State) : Out :=
  onAllpass s .drain a fun v => (Sys2Proof.Machine.apSetGain s.par v g, .none)

/-- AP_PROCESS (R184). -/
def execApProcess (a : ApRef) (x : F32) (s : State) : Out :=
  onAllpass s .render a fun v => ((Sys2Proof.Machine.apProcess v x).1, .sample (Sys2Proof.Machine.apProcess v x).2)

/-- AP_SET_DURATION (R181). -/
def execApSetDuration (a : ApRef) (d : Nat) (s : State) : Out :=
  onAllpass s .drain a fun v => (Sys2Proof.Machine.apSetDuration v d, .none)

end Sys2Proof.Machine
end

