-- ==== Sys2Proof/Machine/ExecBiquad.lean ====
section
/-!
DEFINITION. The meanings of the Biquad operations (`41_biquad.md` R141 to R152).
-/

namespace Sys2Proof.Machine

/-- BQ_SET_LOWPASS (R144). -/
def execBqSetLowpass (b : FilterRef) (nf q : F32) (s : State) : Out :=
  onBiquad s .drain b fun f => (Sys2Proof.Machine.bqSetLowpass s.par f nf q, .none)

/-- BQ_SET_HIGHPASS (R145). -/
def execBqSetHighpass (b : FilterRef) (nf q : F32) (s : State) : Out :=
  onBiquad s .drain b fun f => (Sys2Proof.Machine.bqSetHighpass s.par f nf q, .none)

/-- BQ_SET_BANDPASS (R146). -/
def execBqSetBandpass (b : FilterRef) (nf q : F32) (s : State) : Out :=
  onBiquad s .drain b fun f => (Sys2Proof.Machine.bqSetBandpass s.par f nf q, .none)

/-- BQ_SET_LOWSHELF (R147). -/
def execBqSetLowshelf (b : FilterRef) (nf gainDb : F32) (s : State) : Out :=
  onBiquad s .drain b fun f => (Sys2Proof.Machine.bqSetLowshelf s.par f nf gainDb, .none)

/-- BQ_SET_HIGHSHELF (R148). -/
def execBqSetHighshelf (b : FilterRef) (nf gainDb : F32) (s : State) : Out :=
  onBiquad s .drain b fun f => (Sys2Proof.Machine.bqSetHighshelf s.par f nf gainDb, .none)

/-- BQ_SET_PEAKING (R149). -/
def execBqSetPeaking (b : FilterRef) (nf q gainDb : F32) (s : State) : Out :=
  onBiquad s .drain b fun f => (Sys2Proof.Machine.bqSetPeaking s.par f nf q gainDb, .none)

/-- BQ_SET_ALLPASS (R150). -/
def execBqSetAllpass (b : FilterRef) (nf q : F32) (s : State) : Out :=
  onBiquad s .drain b fun f => (Sys2Proof.Machine.bqSetAllpass s.par f nf q, .none)

/-- BQ_SET_NOTCH (R151). -/
def execBqSetNotch (b : FilterRef) (nf q : F32) (s : State) : Out :=
  onBiquad s .drain b fun f => (Sys2Proof.Machine.bqSetNotch s.par f nf q, .none)

/-- BQ_PROCESS (R152). -/
def execBqProcess (b : FilterRef) (x : F32) (s : State) : Out :=
  onBiquad s .render b fun f => ((Sys2Proof.Machine.bqProcess f x).1, .sample (Sys2Proof.Machine.bqProcess f x).2)

/-- BQ_NEW (R141): makes the stand-alone filter; those of the engine are RESET's (log 19). -/
def execBqNew (b : FilterRef) (s : State) : Out :=
  if FilterRef.remade b then onBiquad s .command b fun _ => (Sys2Proof.Machine.bqNew, .none) else .refused .madeElsewhere

end Sys2Proof.Machine
end

