-- ==== Sys2Proof/Machine/ExecEngine.lean ====
section
/-!
DEFINITION. The meanings of the engine operations: the eight setters, their two helpers, FDN_SAMPLE and RENDER
(`46_fdn_engine.md` R240 to R254).
-/

namespace Sys2Proof.Machine

/-- SET_SIZE (R246, R257). -/
def execSetSize (v : F32) (s : State) : Out := onSetter s (Sys2Proof.Machine.setSize s.par s.eng v)

/-- SET_DECAY (R247, R257). -/
def execSetDecay (v : F32) (s : State) : Out := onSetter s (Sys2Proof.Machine.setDecay s.par s.eng v)

/-- SET_ABSORPTION (R248, R257). -/
def execSetAbsorption (v : F32) (s : State) : Out := onSetter s (Sys2Proof.Machine.setAbsorption s.par s.eng v)

/-- SET_HARDNESS (R249, R257). -/
def execSetHardness (v : F32) (s : State) : Out := onSetter s (Sys2Proof.Machine.setHardness s.par s.eng v)

/-- SET_PROGRESSION (R250, R257). -/
def execSetProgression (v : F32) (s : State) : Out := onSetter s (Sys2Proof.Machine.setProgression s.par s.eng v)

/-- SET_DRYWET (R251, R257). -/
def execSetDrywet (v : F32) (s : State) : Out := onSetter s (Sys2Proof.Machine.setDrywet s.par s.eng v)

/-- SET_WIDTH (R252, R257). -/
def execSetWidth (v : F32) (s : State) : Out := onSetter s (Sys2Proof.Machine.setWidth s.par s.eng v)

/-- SET_PREDELAY (R253, R257). -/
def execSetPredelay (v : F32) (s : State) : Out := onSetter s (Sys2Proof.Machine.setPredelay s.par s.eng v)

/-- REDERIVE_LENGTHS (R245). -/
def execRederiveLengths (s : State) : Out := onSetter s (Sys2Proof.Machine.rederiveLengths s.par s.eng)

/-- APPLY_ABSORPTION (R254). -/
def execApplyAbsorption (s : State) : Out := onSetter s (Sys2Proof.Machine.applyAbsorption s.par s.eng)

/-- The sequencer after one FDN_SAMPLE: RENDERING(k) moves to RENDERING(k+1) (`10_state.md` R24). -/
def Seq.afterSample (q : Seq) : Seq :=
  match q with
  | .rendering k => .rendering (k + 1)
  | .unconfigured => .unconfigured
  | .idle => .idle
  | .draining => .draining

/-- FDN_SAMPLE (R240): one turn of the loop of a RENDER (R242; `60_exceptions.md` R320; log 24). -/
def execFdnSample (x : F32) (s : State) : Out :=
  let (e, l, r) := Sys2Proof.Machine.fdnSample s.par.num s.eng x
  accepted (s.admits .render) ({ s with eng := e, seq := s.seq.afterSample }.returning (.stereo l r))

/-- The state after RENDER of a block (R242), which ends in IDLE. -/
def renderState (s : State) (xs : List F32) : State :=
  let (e, ys) := renderLoop s.par.num s.eng xs
  { s with eng := e, seq := .idle }.returning (.block ys)

/-- RENDER (R242): accepted in IDLE only. -/
def execRender (xs : List F32) (s : State) : Out := accepted (s.cfgOk && s.seq.isIdle) (renderState s xs)

end Sys2Proof.Machine
end

