-- ==== Sys2Proof/Machine/ExecChannel.lean ====
section
/-!
DEFINITION. The meanings of the queue steps and of the audio commands built on them (`47_parameter_channel.md` R271 to R279).
-/

namespace Sys2Proof.Machine

/-- ENQ (R271): enabled whenever `cfg_ok`. -/
def execEnq (word : MsgWord) (s : State) : Out :=
  let (q, ok) := enqueue s.par s.queue word
  accepted s.cfgOk { s with queue := q, ctrlOut := .enqStatus ok }

/-- DEQ (R272): enabled in IDLE and DRAINING. -/
def execDeq (s : State) : Out :=
  let (q, m) := dequeue s.par s.queue
  accepted s.canDequeue ({ s with queue := q }.returning (.dequeued m))

/-- The state after DRAIN (R277): one DEQ, and the message it gave applied; it ends in IDLE. -/
def drainState (s : State) : State :=
  let (q, m) := dequeue s.par s.queue
  let e := match m with
    | some word => applyMessage s.par s.eng word
    | none => s.eng
  { s with queue := q, eng := e, seq := .idle }.returning .none

/-- DRAIN (R277): accepted in IDLE only. -/
def execDrain (s : State) : Out := accepted (s.cfgOk && s.seq.isIdle) (drainState s)

/-- CALLBACK (R279): DRAIN, then RENDER. -/
def execCallback (xs : List F32) (s : State) : Out :=
  accepted (s.cfgOk && s.seq.isIdle) (renderState (drainState s) xs)

/-- A step of the CDC agent: it has none while the block is unconfigured (`70_reset_and_hazards.md` R342), and none when
`CDC_LAG` is `ZERO` or the copied counter has caught up (R274 to R276). -/
def onSync (s : State) (behind : Bool) (q : Queue) : Out :=
  if s.cfgOk then
    if behind && decide (s.par.cdcLag = .arbitrary) then .next { s with queue := q } else .refused .syncNotEnabled
  else .refused .notAccepted

/-- SYNC_FWD (R274). -/
def execSyncFwd (s : State) : Out := onSync s (decide (s.queue.tailSync < s.queue.tail)) (syncForward s.queue)

/-- SYNC_BACK (R275). -/
def execSyncBack (s : State) : Out := onSync s (decide (s.queue.headSync < s.queue.head)) (syncBackward s.queue)

end Sys2Proof.Machine
end

