-- ==== Sys2Proof/Machine/ExecDelayLine.lean ====
section
/-!
DEFINITION. The meanings of the DelayLine operations (`40_delayline.md` R120 to R125).
-/

namespace Sys2Proof.Machine

/-- DL_NEW (R120).  A line of no words is refused, and so is a line whose capacity is fixed (`20_memory.md` R65; log 6). -/
def execDlNew (l : LineRef) (c : Nat) (s : State) : Out :=
  if c = 0 then .refused .noCapacity
  else if LineRef.remade l then onLine s .command l fun _ => (Sys2Proof.Machine.dlNew c, .none)
  else .refused .madeElsewhere

/-- DL_SET_DURATION (R121). -/
def execDlSetDuration (l : LineRef) (d : Nat) (s : State) : Out :=
  onLine s .drain l fun line => (Sys2Proof.Machine.dlSetDuration line d, .none)

/-- DL_WRITE (R122). -/
def execDlWrite (l : LineRef) (x : F32) (s : State) : Out :=
  onLine s .render l fun line => (Sys2Proof.Machine.dlWrite line x, .none)

/-- DL_READ (R123). -/
def execDlRead (l : LineRef) (s : State) : Out :=
  onLine s .render l fun line => ((Sys2Proof.Machine.dlRead line).1, .sample (Sys2Proof.Machine.dlRead line).2)

/-- DL_PROCESS (R124). -/
def execDlProcess (l : LineRef) (x : F32) (s : State) : Out :=
  onLine s .render l fun line => ((Sys2Proof.Machine.dlProcess line x).1, .sample (Sys2Proof.Machine.dlProcess line x).2)

/-- DL_PROCESS_BLOCK (R125). -/
def execDlProcessBlock (l : LineRef) (xs : List F32) (s : State) : Out :=
  onLine s .render l fun line => ((Sys2Proof.Machine.dlProcessBlock line xs).1, .block (Sys2Proof.Machine.dlProcessBlock line xs).2)

end Sys2Proof.Machine
end

