-- ==== Sys2Proof/Machine/ExecMessage.lean ====
section
/-!
DEFINITION. The meanings of the eight parameter messages (level A, `30_encoding.md` R92): a message is applied by the setter of its
tag (`46_fdn_engine.md` R246 to R253), where a setter runs (R257).  A message reaches the machine through the queue alone:
DRAIN dequeues its word and applies it (`47_parameter_channel.md` R277; log 14).
-/

namespace Sys2Proof.Machine

/-- The message SIZE (R92, R246). -/
def execSize (value : F32) (s : State) : Out := onSetter s (Sys2Proof.Machine.setSize s.par s.eng value)

/-- The message DECAY (R92, R247). -/
def execDecay (value : F32) (s : State) : Out := onSetter s (Sys2Proof.Machine.setDecay s.par s.eng value)

/-- The message ABSORPTION (R92, R248). -/
def execAbsorption (value : F32) (s : State) : Out := onSetter s (Sys2Proof.Machine.setAbsorption s.par s.eng value)

/-- The message HARDNESS (R92, R249). -/
def execHardness (value : F32) (s : State) : Out := onSetter s (Sys2Proof.Machine.setHardness s.par s.eng value)

/-- The message PROGRESSION (R92, R250). -/
def execProgression (value : F32) (s : State) : Out := onSetter s (Sys2Proof.Machine.setProgression s.par s.eng value)

/-- The message DRYWET (R92, R251). -/
def execDrywet (value : F32) (s : State) : Out := onSetter s (Sys2Proof.Machine.setDrywet s.par s.eng value)

/-- The message WIDTH (R92, R252). -/
def execWidth (value : F32) (s : State) : Out := onSetter s (Sys2Proof.Machine.setWidth s.par s.eng value)

/-- The message PREDELAY (R92, R253). -/
def execPredelay (value : F32) (s : State) : Out := onSetter s (Sys2Proof.Machine.setPredelay s.par s.eng value)

end Sys2Proof.Machine
end

