-- ==== Sys2Proof/Machine/ExecOnePole.lean ====
section
/-!
DEFINITION. The meanings of the OnePoleLowPass operations (`42_onepole.md` R170 to R172).
-/

namespace Sys2Proof.Machine

/-- OP_NEW (R170): makes the stand-alone filter; those of the engine are RESET's (log 19). -/
def execOpNew (f : FilterRef) (sampleRate : F32) (s : State) : Out :=
  if FilterRef.remade f then onOnePole s .command f fun _ => (Sys2Proof.Machine.opNew sampleRate, .none)
  else .refused .madeElsewhere

/-- OP_SET_FREQUENCY (R171). -/
def execOpSetFrequency (f : FilterRef) (freq : F32) (s : State) : Out :=
  onOnePole s .drain f fun o => (Sys2Proof.Machine.opSetFrequency s.par.num o freq, .none)

/-- OP_PROCESS (R172). -/
def execOpProcess (f : FilterRef) (x : F32) (s : State) : Out :=
  onOnePole s .render f fun o => ((Sys2Proof.Machine.opProcess o x).1, .sample (Sys2Proof.Machine.opProcess o x).2)

end Sys2Proof.Machine
end

