-- ==== Sys2Proof/Machine/ExecReset.lean ====
section
/-!
DEFINITION. The meaning of RESET (`70_reset_and_hazards.md` R340 to R346).
-/

namespace Sys2Proof.Machine

/-- The state after a successful RESET (R340): what the slots hold is unspecified (`93_implementation_defined.md` U2). -/
def resetState (s : State) (sampleRate : F32) : State :=
  { s with
    cfgOk := true
    seq := .idle
    eng := freshEngine s.par sampleRate
    queue := emptyQueue ((List.range s.par.queueCapacity).map (Config.unspecifiedSlot s.freeCount))
    cfgOut := .resetStatus true
    freeCount := s.freeCount + 1 }

/-- The state after a RESET that fails (R340, R342): unconfigured, and everything else of the block unspecified
(`93_implementation_defined.md` U1; log 11). -/
def resetFailedState (s : State) : State :=
  { s with
    cfgOk := false
    seq := .unconfigured
    eng := Config.unspecifiedEngine s.freeCount
    queue := Config.unspecifiedQueue s.freeCount
    cfgOut := .resetStatus false
    freeCount := s.freeCount + 1 }

/-- RESET (R340): accepted in UNCONFIGURED and IDLE (R343). -/
def execReset (sampleRate : F32) (s : State) : Out :=
  accepted s.seq.canReset (if resetAccepts s.par sampleRate then resetState s sampleRate else resetFailedState s)

end Sys2Proof.Machine
end

