-- ==== Sys2Proof/Machine/ExecUtils.lean ====
section
/-!
DEFINITION. The meanings of the Softclip and Utils operations (`44_softclip.md` R195, R196; `45_utils.md` R206, R210, R212).
-/

namespace Sys2Proof.Machine

/-- SC_SET_HARDNESS (R195): a write of `P[3]`, so it runs where SET_HARDNESS does (`46_fdn_engine.md` R257; log 27). -/
def execScSetHardness (h : F32) (s : State) : Out :=
  onSetter s { s.eng with p := Sys2Proof.Machine.scSetHardness s.par s.eng.p h }

/-- SC_PROCESS (R196): it limits with `P[3]`, as a sample of the engine does, so it runs where FDN_SAMPLE does (`60_exceptions.md` R320;
log 19). -/
def execScProcess (x : F32) (s : State) : Out :=
  onPure s .render (.sample (Sys2Proof.Machine.scProcess s.par.num s.eng.p.hardness x))

/-- COPRIME (R206). -/
def execCoprime (start : Nat) (factor : F32) (count : Nat) (s : State) : Out :=
  onPure s .command (.lengths (Sys2Proof.Machine.coprime start factor count))

/-- HADAMARD (R210). -/
def execHadamard (n : Nat) (s : State) : Out := onPure s .command (.matrix (Sys2Proof.Machine.hadamard n))

/-- MATVEC (R212). -/
def execMatvec (v : Quad F32) (m : Quad (Quad F32)) (s : State) : Out :=
  onPure s .command (.vector (Sys2Proof.Machine.matvec v m))

end Sys2Proof.Machine
end

