-- ==== Sys2Proof/Machine/Dispatch.lean ====
section
/-!
DEFINITION. The dispatch: one arm per operation, each one call of its meaning.
-/

namespace Sys2Proof.Machine

def exec (i : Instr) (s : State) : Host.Outcome State Fault Refusal :=
  match i with
  | .size value => Sys2Proof.Machine.execSize value s
  | .decay value => Sys2Proof.Machine.execDecay value s
  | .absorption value => Sys2Proof.Machine.execAbsorption value s
  | .hardness value => Sys2Proof.Machine.execHardness value s
  | .progression value => Sys2Proof.Machine.execProgression value s
  | .drywet value => Sys2Proof.Machine.execDrywet value s
  | .width value => Sys2Proof.Machine.execWidth value s
  | .predelay value => Sys2Proof.Machine.execPredelay value s
  | .reset sampleRate => Sys2Proof.Machine.execReset sampleRate s
  | .enq word => Sys2Proof.Machine.execEnq word s
  | .deq => Sys2Proof.Machine.execDeq s
  | .drain => Sys2Proof.Machine.execDrain s
  | .render xs => Sys2Proof.Machine.execRender xs s
  | .callback xs => Sys2Proof.Machine.execCallback xs s
  | .setSize v => Sys2Proof.Machine.execSetSize v s
  | .setDecay v => Sys2Proof.Machine.execSetDecay v s
  | .setAbsorption v => Sys2Proof.Machine.execSetAbsorption v s
  | .setHardness v => Sys2Proof.Machine.execSetHardness v s
  | .setProgression v => Sys2Proof.Machine.execSetProgression v s
  | .setDrywet v => Sys2Proof.Machine.execSetDrywet v s
  | .setWidth v => Sys2Proof.Machine.execSetWidth v s
  | .setPredelay v => Sys2Proof.Machine.execSetPredelay v s
  | .fdnSample x => Sys2Proof.Machine.execFdnSample x s
  | .rederiveLengths => Sys2Proof.Machine.execRederiveLengths s
  | .applyAbsorption => Sys2Proof.Machine.execApplyAbsorption s
  | .dlNew l c => Sys2Proof.Machine.execDlNew l c s
  | .dlSetDuration l d => Sys2Proof.Machine.execDlSetDuration l d s
  | .dlWrite l x => Sys2Proof.Machine.execDlWrite l x s
  | .dlRead l => Sys2Proof.Machine.execDlRead l s
  | .dlProcess l x => Sys2Proof.Machine.execDlProcess l x s
  | .dlProcessBlock l xs => Sys2Proof.Machine.execDlProcessBlock l xs s
  | .bqSetLowpass b nf q => Sys2Proof.Machine.execBqSetLowpass b nf q s
  | .bqSetHighpass b nf q => Sys2Proof.Machine.execBqSetHighpass b nf q s
  | .bqSetBandpass b nf q => Sys2Proof.Machine.execBqSetBandpass b nf q s
  | .bqSetLowshelf b nf gainDb => Sys2Proof.Machine.execBqSetLowshelf b nf gainDb s
  | .bqSetHighshelf b nf gainDb => Sys2Proof.Machine.execBqSetHighshelf b nf gainDb s
  | .bqSetPeaking b nf q gainDb => Sys2Proof.Machine.execBqSetPeaking b nf q gainDb s
  | .bqSetAllpass b nf q => Sys2Proof.Machine.execBqSetAllpass b nf q s
  | .bqSetNotch b nf q => Sys2Proof.Machine.execBqSetNotch b nf q s
  | .bqProcess b x => Sys2Proof.Machine.execBqProcess b x s
  | .bqNew b => Sys2Proof.Machine.execBqNew b s
  | .opNew f sampleRate => Sys2Proof.Machine.execOpNew f sampleRate s
  | .opSetFrequency f freq => Sys2Proof.Machine.execOpSetFrequency f freq s
  | .opProcess f x => Sys2Proof.Machine.execOpProcess f x s
  | .apNew a c sampleRate => Sys2Proof.Machine.execApNew a c sampleRate s
  | .apSetDelay a seconds => Sys2Proof.Machine.execApSetDelay a seconds s
  | .apSetGain a g => Sys2Proof.Machine.execApSetGain a g s
  | .apProcess a x => Sys2Proof.Machine.execApProcess a x s
  | .apSetDuration a d => Sys2Proof.Machine.execApSetDuration a d s
  | .scSetHardness h => Sys2Proof.Machine.execScSetHardness h s
  | .scProcess x => Sys2Proof.Machine.execScProcess x s
  | .coprime start factor count => Sys2Proof.Machine.execCoprime start factor count s
  | .hadamard n => Sys2Proof.Machine.execHadamard n s
  | .matvec v m => Sys2Proof.Machine.execMatvec v m s
  | .syncFwd => Sys2Proof.Machine.execSyncFwd s
  | .syncBack => Sys2Proof.Machine.execSyncBack s

end Sys2Proof.Machine
end

