-- ==== Sys2Proof/Machine/Present.lean ====
section
/-!
DEFINITION. How a presented transaction is taken: decoded, checked, refused when it is one that no port takes, executed otherwise;
and the message through which DRAIN runs an operation that only DRAIN runs.
-/

namespace Sys2Proof.Machine

/-- An operation presented as a transaction.  What the audio agent executes inside its commands alone is no transaction
(`60_exceptions.md` R320): a setter (`46_fdn_engine.md` R257, `90_conflicts.md` C10, D42; log 27), a sample and every operation on a
component of the engine (logs 19, 24), and one on a line inside the stand-alone Allpass. -/
def present (i : Instr) (s : State) : Out :=
  match stage i with
  | .command => exec i s
  | .drain | .render | .part => .refused .notAccepted

/-- A transaction presented on a port (`30_encoding.md` R97). -/
def takeCommand (c : Command) (s : State) : Out :=
  match decodeCmd c with
  | .error _ => .refused .noOperation
  | .ok i => if i.wellFormed then present i s else .refused .noCapacity

/-- The message whose DRAIN runs the operation of an id that only DRAIN runs: that of the setter's tag, with the least operand;
for a helper, the setter that runs it, with the value its register holds, so that the helper is all it does (logs 3, 12). -/
def fetchMessage (e : Engine) (w : Nat) : Option MsgWord :=
  match w with
  | 0x10 => some (msgWord 0 F32.zero)
  | 0x11 => some (msgWord 1 F32.zero)
  | 0x12 => some (msgWord 2 F32.zero)
  | 0x13 => some (msgWord 3 F32.zero)
  | 0x14 => some (msgWord 4 F32.zero)
  | 0x15 => some (msgWord 5 F32.zero)
  | 0x16 => some (msgWord 6 F32.zero)
  | 0x17 => some (msgWord 7 F32.zero)
  | 0x19 => some (msgWord 0 e.p.size)
  | 0x1A => some (msgWord 2 e.p.absorption)
  | 0x60 => some (msgWord 3 F32.zero)
  | _ => none

/-- The state with a message word made the one visible message of the queue, and DRAIN the next transaction. -/
def State.withMessage (s : State) (word : MsgWord) : State :=
  { s with queue := presentMessage s.par s.queue word, pending := tableCommand 0x04 :: s.pending }

/-- The transaction that runs the operation of an id: FDN_SAMPLE, and SC_PROCESS, which FDN_SAMPLE runs, as the RENDER of a block of one
sample, the least operand (`46_fdn_engine.md` R240, R242; logs 3, 24), every other that is one of its own by its id. -/
def fetchCommand (w : Nat) : Command :=
  match w with
  | 0x18 | 0x61 => ⟨Opcode.id .render, [.block [F32.zero]]⟩
  | _ => tableCommand w

/-- The state with an operation id placed where the next step runs it. -/
def State.withId (s : State) (w : Nat) : State :=
  match fetchMessage s.eng w with
  | some word => s.withMessage word
  | none => { s with pending := fetchCommand w :: s.pending }

end Sys2Proof.Machine
end

