-- ==== Sys2Proof/Machine/Step.lean ====
section
/-!
DEFINITION. One step of the machine: the oldest presented transaction is decoded and executed.
-/

namespace Sys2Proof.Machine

/-- One step.  The block does something only when a command arrives (`60_exceptions.md` R321), so with nothing presented the
state stays as it is (log 16). -/
def step (s : State) : Host.Outcome State Fault Refusal :=
  match s.pending with
  | [] => .next s
  | c :: rest => takeCommand c { s with pending := rest }

/-- The state with a word of the opcode table placed where the next step runs it.  An operation id becomes the next
transaction.  A message word is made the next visible message of the queue, and DRAIN the next transaction, because the
queue is the only way a message reaches the engine (`47_parameter_channel.md` R277; logs 3, 14); the same for the id of an
operation that only DRAIN runs (log 27), and the id of one that only RENDER runs becomes a RENDER (log 24). -/
def State.withFetchWord (s : State) (nbits w : Nat) : State :=
  if nbits = 40 then s.withMessage (BitVec.ofNat 40 w) else s.withId w

end Sys2Proof.Machine
end

