-- ==== Sys2Proof/Safety.lean ====
section
/-!
DEFINITION. The terms the claims use: which agent issues an operation and what kind of state it may write, the invariants of
the state (`10_state.md` R22, R26, R28, R30, R33, R36), runs of one component or of the queue, and what it means for a
binary32 value to be a real number correctly rounded (`00_scope.md` R5).
-/

namespace Sys2Proof

/-- The agent that issues an operation (`60_exceptions.md` R320). -/
def Instr.agent (i : Instr) : Agent :=
  match i with
  | .reset _ => .host
  | .enq _ => .control
  | .syncFwd | .syncBack => .cdc
  | .size _ | .decay _ | .absorption _ | .hardness _ | .progression _ | .drywet _ | .width _ | .predelay _ => .audio
  | .deq | .drain | .render _ | .callback _ => .audio
  | .setSize _ | .setDecay _ | .setAbsorption _ | .setHardness _ | .setProgression _ | .setDrywet _ | .setWidth _ => .audio
  | .setPredelay _ | .fdnSample _ | .rederiveLengths | .applyAbsorption => .audio
  | .dlNew _ _ | .dlSetDuration _ _ | .dlWrite _ _ | .dlRead _ | .dlProcess _ _ | .dlProcessBlock _ _ => .audio
  | .bqSetLowpass _ _ _ | .bqSetHighpass _ _ _ | .bqSetBandpass _ _ _ | .bqSetLowshelf _ _ _ => .audio
  | .bqSetHighshelf _ _ _ | .bqSetPeaking _ _ _ _ | .bqSetAllpass _ _ _ | .bqSetNotch _ _ _ => .audio
  | .bqProcess _ _ | .bqNew _ | .opNew _ _ | .opSetFrequency _ _ | .opProcess _ _ => .audio
  | .apNew _ _ _ | .apSetDelay _ _ | .apSetGain _ _ | .apProcess _ _ | .apSetDuration _ _ => .audio
  | .scSetHardness _ | .scProcess _ | .coprime _ _ _ | .hadamard _ | .matvec _ _ => .audio

/-- An operation whose operand names one DelayLine, Biquad, OnePoleLowPass or Allpass. -/
def Instr.onComponent (i : Instr) : Bool :=
  match i with
  | .dlNew _ _ | .dlSetDuration _ _ | .dlWrite _ _ | .dlRead _ | .dlProcess _ _ | .dlProcessBlock _ _ => true
  | .bqSetLowpass _ _ _ | .bqSetHighpass _ _ _ | .bqSetBandpass _ _ _ | .bqSetLowshelf _ _ _ => true
  | .bqSetHighshelf _ _ _ | .bqSetPeaking _ _ _ _ | .bqSetAllpass _ _ _ | .bqSetNotch _ _ _ => true
  | .bqProcess _ _ | .bqNew _ | .opNew _ _ | .opSetFrequency _ _ | .opProcess _ _ => true
  | .apNew _ _ _ | .apSetDelay _ _ | .apSetGain _ _ | .apProcess _ _ | .apSetDuration _ _ => true
  | .size _ | .decay _ | .absorption _ | .hardness _ | .progression _ | .drywet _ | .width _ | .predelay _ => false
  | .reset _ | .enq _ | .deq | .drain | .render _ | .callback _ => false
  | .setSize _ | .setDecay _ | .setAbsorption _ | .setHardness _ | .setProgression _ | .setDrywet _ | .setWidth _ => false
  | .setPredelay _ | .fdnSample _ | .rederiveLengths | .applyAbsorption => false
  | .scSetHardness _ | .scProcess _ | .coprime _ _ _ | .hadamard _ | .matvec _ _ => false
  | .syncFwd | .syncBack => false

/-- One half of a pair inside a command: a DL_WRITE or a DL_READ of a DL_PROCESS or an AP_PROCESS on a line that is kept lagging
(`40_delayline.md` R126), or a DL_SET_DURATION of an AP_SET_DURATION (`43_allpass.md` R181).  The stand-alone line is no part of
anything. -/
def Instr.halfOfPair (i : Instr) : Bool :=
  match i with
  | .dlWrite l _ | .dlRead l =>
    match l with
    | .pre | .dl _ | .apIn _ | .apOut _ | .benchApIn | .benchApOut => true
    | .bench => false
  | .dlSetDuration l _ =>
    match l with
    | .apIn _ | .apOut _ | .benchApIn | .benchApOut => true
    | .pre | .dl _ | .bench => false
  | .dlNew _ _ | .dlProcess _ _ | .dlProcessBlock _ _ => false
  | .bqSetLowpass _ _ _ | .bqSetHighpass _ _ _ | .bqSetBandpass _ _ _ | .bqSetLowshelf _ _ _ => false
  | .bqSetHighshelf _ _ _ | .bqSetPeaking _ _ _ _ | .bqSetAllpass _ _ _ | .bqSetNotch _ _ _ => false
  | .bqProcess _ _ | .bqNew _ | .opNew _ _ | .opSetFrequency _ _ | .opProcess _ _ => false
  | .apNew _ _ _ | .apSetDelay _ _ | .apSetGain _ _ | .apProcess _ _ | .apSetDuration _ _ => false
  | .size _ | .decay _ | .absorption _ | .hardness _ | .progression _ | .drywet _ | .width _ | .predelay _ => false
  | .reset _ | .enq _ | .deq | .drain | .render _ | .callback _ => false
  | .setSize _ | .setDecay _ | .setAbsorption _ | .setHardness _ | .setProgression _ | .setDrywet _ | .setWidth _ => false
  | .setPredelay _ | .fdnSample _ | .rederiveLengths | .applyAbsorption => false
  | .scSetHardness _ | .scProcess _ | .coprime _ _ _ | .hadamard _ | .matvec _ _ | .syncFwd | .syncBack => false

/-- An operation that may write a parameter register: a setter, a message, DRAIN and CALLBACK, which run one, and RESET
(`10_state.md` R26). -/
def Instr.mayWriteParams (i : Instr) : Bool :=
  match i with
  | .size _ | .decay _ | .absorption _ | .hardness _ | .progression _ | .drywet _ | .width _ | .predelay _ => true
  | .setSize _ | .setDecay _ | .setAbsorption _ | .setHardness _ | .setProgression _ | .setDrywet _ | .setWidth _ => true
  | .setPredelay _ | .scSetHardness _ | .drain | .callback _ | .reset _ => true
  | .enq _ | .deq | .render _ | .fdnSample _ | .rederiveLengths | .applyAbsorption => false
  | .scProcess _ | .coprime _ _ _ | .hadamard _ | .matvec _ _ | .syncFwd | .syncBack => false
  | .dlNew _ _ | .dlSetDuration _ _ | .dlWrite _ _ | .dlRead _ | .dlProcess _ _ | .dlProcessBlock _ _ => false
  | .bqSetLowpass _ _ _ | .bqSetHighpass _ _ _ | .bqSetBandpass _ _ _ | .bqSetLowshelf _ _ _ => false
  | .bqSetHighshelf _ _ _ | .bqSetPeaking _ _ _ _ | .bqSetAllpass _ _ _ | .bqSetNotch _ _ _ => false
  | .bqProcess _ _ | .bqNew _ | .opNew _ _ | .opSetFrequency _ _ | .opProcess _ _ => false
  | .apNew _ _ _ | .apSetDelay _ _ | .apSetGain _ _ | .apProcess _ _ | .apSetDuration _ _ => false

/-- An operation that may write `len`: REDERIVE_LENGTHS and what runs it (`10_state.md` R27). -/
def Instr.mayWriteLengths (i : Instr) : Bool :=
  match i with
  | .size _ | .progression _ | .setSize _ | .setProgression _ | .rederiveLengths => true
  | .drain | .callback _ | .reset _ => true
  | .decay _ | .absorption _ | .hardness _ | .drywet _ | .width _ | .predelay _ => false
  | .setDecay _ | .setAbsorption _ | .setHardness _ | .setDrywet _ | .setWidth _ | .setPredelay _ => false
  | .enq _ | .deq | .render _ | .fdnSample _ | .applyAbsorption => false
  | .scSetHardness _ | .scProcess _ | .coprime _ _ _ | .hadamard _ | .matvec _ _ | .syncFwd | .syncBack => false
  | .dlNew _ _ | .dlSetDuration _ _ | .dlWrite _ _ | .dlRead _ | .dlProcess _ _ | .dlProcessBlock _ _ => false
  | .bqSetLowpass _ _ _ | .bqSetHighpass _ _ _ | .bqSetBandpass _ _ _ | .bqSetLowshelf _ _ _ => false
  | .bqSetHighshelf _ _ _ | .bqSetPeaking _ _ _ _ | .bqSetAllpass _ _ _ | .bqSetNotch _ _ _ => false
  | .bqProcess _ _ | .bqNew _ | .opNew _ _ | .opSetFrequency _ _ | .opProcess _ _ => false
  | .apNew _ _ _ | .apSetDelay _ _ | .apSetGain _ _ | .apProcess _ _ | .apSetDuration _ _ => false

/-- An operation that may write a word of a sample memory, and so move a write index: those that contain a DL_WRITE, and the
constructors (`10_state.md` R35, `20_memory.md` R62). -/
def Instr.mayWriteSamples (i : Instr) : Bool :=
  match i with
  | .dlWrite _ _ | .dlProcess _ _ | .dlProcessBlock _ _ | .apProcess _ _ => true
  | .fdnSample _ | .render _ | .callback _ => true
  | .dlNew _ _ | .apNew _ _ _ | .reset _ => true
  | .size _ | .decay _ | .absorption _ | .hardness _ | .progression _ | .drywet _ | .width _ | .predelay _ => false
  | .setSize _ | .setDecay _ | .setAbsorption _ | .setHardness _ | .setProgression _ | .setDrywet _ | .setWidth _ => false
  | .setPredelay _ | .rederiveLengths | .applyAbsorption | .enq _ | .deq | .drain | .dlSetDuration _ _ | .dlRead _ => false
  | .bqSetLowpass _ _ _ | .bqSetHighpass _ _ _ | .bqSetBandpass _ _ _ | .bqSetLowshelf _ _ _ => false
  | .bqSetHighshelf _ _ _ | .bqSetPeaking _ _ _ _ | .bqSetAllpass _ _ _ | .bqSetNotch _ _ _ => false
  | .bqProcess _ _ | .bqNew _ | .opNew _ _ | .opSetFrequency _ _ | .opProcess _ _ => false
  | .apSetDelay _ _ | .apSetGain _ _ | .apSetDuration _ _ => false
  | .scSetHardness _ | .scProcess _ | .coprime _ _ _ | .hadamard _ | .matvec _ _ | .syncFwd | .syncBack => false

/-- An operation that contains an FDN_SAMPLE (`10_state.md` R25). -/
def Instr.computesSamples (i : Instr) : Bool :=
  match i with
  | .fdnSample _ | .render _ | .callback _ => true
  | .size _ | .decay _ | .absorption _ | .hardness _ | .progression _ | .drywet _ | .width _ | .predelay _ => false
  | .reset _ | .enq _ | .deq | .drain => false
  | .setSize _ | .setDecay _ | .setAbsorption _ | .setHardness _ | .setProgression _ | .setDrywet _ | .setWidth _ => false
  | .setPredelay _ | .rederiveLengths | .applyAbsorption => false
  | .dlNew _ _ | .dlSetDuration _ _ | .dlWrite _ _ | .dlRead _ | .dlProcess _ _ | .dlProcessBlock _ _ => false
  | .bqSetLowpass _ _ _ | .bqSetHighpass _ _ _ | .bqSetBandpass _ _ _ | .bqSetLowshelf _ _ _ => false
  | .bqSetHighshelf _ _ _ | .bqSetPeaking _ _ _ _ | .bqSetAllpass _ _ _ | .bqSetNotch _ _ _ => false
  | .bqProcess _ _ | .bqNew _ | .opNew _ _ | .opSetFrequency _ _ | .opProcess _ _ => false
  | .apNew _ _ _ | .apSetDelay _ _ | .apSetGain _ _ | .apProcess _ _ | .apSetDuration _ _ => false
  | .scSetHardness _ | .scProcess _ | .coprime _ _ _ | .hadamard _ | .matvec _ _ | .syncFwd | .syncBack => false

/-- The filter an operation needs to be of the kind that was built (log 20): none, a Biquad, or an OnePoleLowPass. -/
def Instr.needsFilter (i : Instr) : Option (FilterRef × Machine.DampingKind) :=
  match i with
  | .bqSetLowpass b _ _ | .bqSetHighpass b _ _ | .bqSetBandpass b _ _ | .bqSetLowshelf b _ _ => some (b, .biquad)
  | .bqSetHighshelf b _ _ | .bqSetPeaking b _ _ _ | .bqSetAllpass b _ _ | .bqSetNotch b _ _ => some (b, .biquad)
  | .bqProcess b _ | .bqNew b => some (b, .biquad)
  | .opNew f _ | .opSetFrequency f _ | .opProcess f _ => some (f, .onePole)
  | .size _ | .decay _ | .absorption _ | .hardness _ | .progression _ | .drywet _ | .width _ | .predelay _ => none
  | .reset _ | .enq _ | .deq | .drain | .render _ | .callback _ => none
  | .setSize _ | .setDecay _ | .setAbsorption _ | .setHardness _ | .setProgression _ | .setDrywet _ | .setWidth _ => none
  | .setPredelay _ | .fdnSample _ | .rederiveLengths | .applyAbsorption => none
  | .dlNew _ _ | .dlSetDuration _ _ | .dlWrite _ _ | .dlRead _ | .dlProcess _ _ | .dlProcessBlock _ _ => none
  | .apNew _ _ _ | .apSetDelay _ _ | .apSetGain _ _ | .apProcess _ _ | .apSetDuration _ _ => none
  | .scSetHardness _ | .scProcess _ | .coprime _ _ _ | .hadamard _ | .matvec _ _ | .syncFwd | .syncBack => none

/-- Whether a DelayLine is one of the engine's thirteen (`10_state.md` R20). -/
def LineRef.inEngine (l : LineRef) : Bool :=
  match l with
  | .pre | .dl _ | .apIn _ | .apOut _ => true
  | .bench | .benchApIn | .benchApOut => false

namespace Machine

/-! ## When an operation executes -/

/-- A configured block: an operation of the audio agent may execute (`70_reset_and_hazards.md` R342). -/
abbrev State.Configured (s : State) : Prop := s.cfgOk = true ∧ s.seq ≠ .unconfigured

/-- A configured block between two commands (`10_state.md` R24). -/
abbrev State.Idle (s : State) : Prop := s.cfgOk = true ∧ s.seq = .idle

/-- A configured block inside a DRAIN, where a setter runs (`46_fdn_engine.md` R257). -/
abbrev State.Draining (s : State) : Prop := s.cfgOk = true ∧ s.seq = .draining

/-- A configured block inside a RENDER, in RENDERING(k) for some k, where a sample is computed (`46_fdn_engine.md` R242). -/
abbrev State.Rendering (s : State) : Prop := s.cfgOk = true ∧ s.seq.isRendering = true

/-- The block is at the stage where an operation of the stage `g` is executed (`60_exceptions.md` R320; logs 19, 24, 27). -/
abbrev State.During (s : State) (g : Stage) : Prop :=
  match g with
  | .command | .part => s.Configured
  | .drain => s.Draining
  | .render => s.Rendering

/-- A configured block between two blocks of samples, where a DEQ is enabled (`47_parameter_channel.md` R272). -/
abbrev State.Between (s : State) : Prop := s.cfgOk = true ∧ (s.seq = .idle ∨ s.seq = .draining)

/-! ## Invariants -/

/-- `LAG(L)` (`10_state.md` R30). -/
abbrev DelayLine.Lag (l : DelayLine) : Prop := l.r = lagged l.w l.cap l.dur

/-- The ranges of a DelayLine's registers (`10_state.md` R30), and its memory in canonical form (log 17). -/
abbrev DelayLine.Wf (l : DelayLine) : Prop :=
  1 ≤ l.cap ∧ l.dur ≤ l.cap - 1 ∧ l.w < l.cap ∧ l.r < l.cap ∧ Memory.wf l.cap l.buf = true

/-- `|gain| <= STABLE_MAX` (`10_state.md` R33). -/
abbrev StableGain (k : Parameters) (g : F32) : Prop :=
  F32.le k.stableMax.negate g = true ∧ F32.le g k.stableMax = true

/-- `lo <= v <= hi`. -/
abbrev Within (v lo hi : F32) : Prop := F32.le lo v = true ∧ F32.le v hi = true

/-- The legal ranges of the parameter registers (`10_state.md` R26), at the sample rate `fs`. -/
abbrev Params.Legal (k : Parameters) (p : Params) (fs : F32) : Prop :=
  Within p.size k.sizeMin k.sizeMax ∧
  Within p.decay k.decayMin k.decayMax ∧
  Within p.absorption k.absorbMin (k.absorbMax fs) ∧
  Within p.hardness k.hardMin k.hardMax ∧
  Within p.progression k.progMin k.progMax ∧
  Within p.drywet k.drywetMin k.drywetMax ∧
  Within p.width k.widthMin k.widthMax ∧
  Within p.predelayMs k.predelayMin k.predelayMax

/-- `QINV` (`10_state.md` R36). -/
abbrev Queue.QInv (k : Parameters) (q : Queue) : Prop :=
  q.headSync ≤ q.head ∧ q.head ≤ q.tailSync ∧ q.tailSync ≤ q.tail ∧ q.tail ≤ q.headSync + k.queueCapacity

/-- Which kind of filter a damping filter is. -/
def Damp.kind (d : Damp) : DampingKind :=
  match d with
  | .onePole _ => .onePole
  | .biquad _ => .biquad

/-- What every operation keeps.  What it says of the engine and the queue it says of a configured block: an unconfigured one
holds any value there (`93_implementation_defined.md` U1). -/
structure Inv (s : State) : Prop where
  /-- The block was built with parameters it can be built with (R3). -/
  legal : s.par.Legal
  /-- `cfg_ok` and `seq` agree (`70_reset_and_hazards.md` R342). -/
  latch : s.cfgOk = true ↔ s.seq ≠ .unconfigured
  /-- The latched sample rate is legal and `cap` is the capacity it implies (R22, R341). -/
  rate : s.cfgOk = true → resetAccepts s.par s.eng.fs = true ∧ s.eng.cap = capacityOf s.par s.eng.fs
  /-- Every parameter register lies in its legal range (R26). -/
  params : s.cfgOk = true → s.eng.p.Legal s.par s.eng.fs
  /-- The feedback matrix is constant (R28). -/
  mixing : s.cfgOk = true → s.eng.fbm = mixMatrix s.par
  /-- The damping filters are of the configured kind (`46_fdn_engine.md` R226). -/
  kinds : s.cfgOk = true → ∀ i, (s.eng.damp.get i).kind = s.par.damping
  /-- Every allpass gain is stable (R33). -/
  gains : s.cfgOk = true → ∀ i, StableGain s.par (s.eng.ap.get i).gain
  /-- The message memory has `Q` words (R35, R36). -/
  slots : s.cfgOk = true → s.queue.slot.length = s.par.queueCapacity
  /-- `QINV` (R36). -/
  channel : s.cfgOk = true → s.queue.QInv s.par
  /-- With `CDC_LAG` = `ZERO` the copies equal the originals (`47_parameter_channel.md` R276). -/
  copies : s.cfgOk = true → s.par.cdcLag = .zero → s.queue.tailSync = s.queue.tail ∧ s.queue.headSync = s.queue.head
  /-- The registers of every line are in range and its memory is canonical (R30). -/
  lines : ∀ l : LineRef, s.cfgOk = true ∨ l.inEngine = false → (s.line l).Wf
  /-- The thirteen lines have the capacity of the latch, which fits their memories (`20_memory.md` R65). -/
  capacity : s.cfgOk = true → ∀ l : LineRef, l.inEngine = true →
    (s.line l).cap = s.eng.cap ∧ s.eng.cap ≤ s.par.lineMemWords
  /-- The stand-alone allpass's gain is stable (R33). -/
  benchGain : StableGain s.par s.bench.ap.gain

/-- What every step keeps besides: the thirteen lines, and the two of the stand-alone Allpass, satisfy `LAG`, and the two lines of an
Allpass have one duration of at least 1 (R30, R33; `40_delayline.md` R126).  Inside a command it may be broken by one half of a pair
and is mended by the other (`Instr.halfOfPair`). -/
structure WholeInv (s : State) : Prop extends Inv s where
  /-- Every line of the engine satisfies `LAG` (R30). -/
  lag : s.cfgOk = true → ∀ l : LineRef, l.inEngine = true → (s.line l).Lag
  /-- `A.in.dur = A.out.dur >= 1` (R33). -/
  paired : s.cfgOk = true → ∀ i, (s.eng.ap.get i).inLine.dur = (s.eng.ap.get i).outLine.dur ∧ 1 ≤ (s.eng.ap.get i).inLine.dur
  /-- The lines of the stand-alone Allpass satisfy `LAG`. -/
  benchLag : s.bench.ap.inLine.Lag ∧ s.bench.ap.outLine.Lag
  /-- The lines of the stand-alone Allpass have one capacity, and one duration of at least 1. -/
  benchPaired : s.bench.ap.inLine.cap = s.bench.ap.outLine.cap ∧ s.bench.ap.inLine.dur = s.bench.ap.outLine.dur ∧
    1 ≤ s.bench.ap.inLine.dur

/-! ## Runs -/

/-- A step of a DelayLine used through DL_PROCESS (`40_delayline.md` R127). -/
inductive LineOp where
  | setDuration (d : Nat)
  | process (x : F32)
  deriving DecidableEq, Repr

/-- A DelayLine after a run. -/
def lineAfter (l : DelayLine) (ops : List LineOp) : DelayLine :=
  match ops with
  | [] => l
  | .setDuration d :: rest => lineAfter (dlSetDuration l d) rest
  | .process x :: rest => lineAfter (dlProcess l x).1 rest

/-- The inputs of the DL_PROCESS calls of a run, in order. -/
def lineInputs (ops : List LineOp) : List F32 :=
  match ops with
  | [] => []
  | .setDuration _ :: rest => lineInputs rest
  | .process x :: rest => x :: lineInputs rest

/-- A step of an Allpass (`43_allpass.md` R185). -/
inductive ApOp where
  | setDuration (d : Nat)
  | setGain (g : F32)
  | process (x : F32)
  deriving DecidableEq, Repr

/-- An Allpass after a run, with the inputs and the outputs of its AP_PROCESS calls in order. -/
def apRun (k : Parameters) (a : Allpass) (ops : List ApOp) : Allpass × List F32 × List F32 :=
  match ops with
  | [] => (a, [], [])
  | .setDuration d :: rest => apRun k (apSetDuration a d) rest
  | .setGain g :: rest => apRun k (apSetGain k a g) rest
  | .process x :: rest =>
    let (b, y) := apProcess a x
    let (c, xs, ys) := apRun k b rest
    (c, x :: xs, y :: ys)

/-- FDN_SAMPLE executed on each sample in order, as a RENDER does, with the outputs, left then right (`46_fdn_engine.md` R242). -/
def samplesRun (xs : List F32) (s : State) : Option (State × List F32) :=
  match xs with
  | [] => some (s, [])
  | x :: rest =>
    match exec (.fdnSample x) s with
    | .next t =>
      match t.audioOut with
      | .stereo l r =>
        match samplesRun rest t with
        | some (u, ys) => some (u, l :: r :: ys)
        | none => none
      | _ => none
    | _ => none

/-- The word an operation has put into the queue, seen from its result. -/
def sentWord (i : Instr) (t : State) : List MsgWord :=
  match i, t.ctrlOut with
  | .enq w, .enqStatus true => [w]
  | _, _ => []

/-- The word a DEQ executed in `s` takes. -/
def dequeuedWord (s : State) : List MsgWord :=
  match exec .deq s with
  | .next d =>
    match d.audioOut with
    | .dequeued (some w) => [w]
    | _ => []
  | _ => []

/-- The word an operation executed in `s` takes from the queue: that of a DEQ, on its own or as the first thing a DRAIN does. -/
def takenWord (i : Instr) (s : State) : List MsgWord :=
  match i with
  | .deq => dequeuedWord s
  | .drain | .callback _ => dequeuedWord { s with seq := .draining }
  | _ => []

/-- A run of operations, each a step, with the words sent and the words taken. -/
def channelRun (s : State) (is : List Instr) : Option (State × List MsgWord × List MsgWord) :=
  match is with
  | [] => some (s, [], [])
  | i :: rest =>
    match exec i s with
    | .next t =>
      match channelRun t rest with
      | some (u, sent, taken) => some (u, sentWord i t ++ sent, takenWord i s ++ taken)
      | none => none
    | _ => none

/-- The candidate `c_k` of COPRIME (`45_utils.md` R206). -/
def coprimeCandidate (factor : F32) (start k : Nat) : Nat :=
  match k with
  | 0 => start
  | k + 1 => ((F32.ofNat (coprimeCandidate factor start k)).mul factor).truncToNat

/-- Entry `i`, `j` of a matrix given by rows. -/
def entry (h : List (List Int)) (i j : Nat) : Int := (h.getD i []).getD j 0

end Machine

/-! ## Correct rounding -/

/-- The rational number a finite binary32 value stands for. -/
def F32.toRat (a : F32) : ℚ := (a.scaled : ℚ) / 2 ^ 149

/-- Whether the fraction field is even. -/
def F32.evenFraction (a : F32) : Bool :=
  match a with
  | .finite _ _ f => f.val % 2 == 0
  | .inf _ => false
  | .nan => false

/-- `y` is the real number `r` rounded to nearest, ties to even (`00_scope.md` R5): a finite value no further from `r` than any
other, of even fraction when another is as near; an infinity of its sign from `2^128 - 2^103` on. -/
def F32.RoundsTo (y : F32) (r : ℝ) : Prop :=
  (|r| < 2 ^ 128 - 2 ^ 103 →
    y.isFinite = true ∧
    ∀ z : F32, z.isFinite = true →
      |(y.toRat : ℝ) - r| ≤ |(z.toRat : ℝ) - r| ∧
      (|(z.toRat : ℝ) - r| = |(y.toRat : ℝ) - r| → z.toRat ≠ y.toRat → y.evenFraction = true)) ∧
  (2 ^ 128 - 2 ^ 103 ≤ r → y = .inf false) ∧
  (r ≤ -(2 ^ 128 - 2 ^ 103) → y = .inf true)

end Sys2Proof
end

