-- ==== Sys2Proof/Certificates/Slice0/Obligations.lean ====
section
/-!
DEFINITION. The statements for the provers.  Where one speaks of `audioOut`, `ctrlOut` or `cfgOut`, those are the model's names
for what an operation returns to its caller (log 5).  The audio agent executes what sets a component of the engine inside a DRAIN,
in DRAINING, and what computes a sample on it inside a RENDER, in RENDERING(k), and no port takes either (R320, R257, C10, D42; logs 19,
24, 27): `Draining`, `Rendering` and `During` say so.  Operations on the stand-alone components are transactions of their own (logs 6,
12, 19); these and the log entries above are the model's choice, so the statements about them are derived.  A bound, a reset value or a
function of `NUM` is the parameter of R3's table that the rule names, `s.par`.
-/

open Sys2Proof Sys2Proof.Machine

/-! ## Encoding -/

/-- Decoding an encoded operation gives it back, whatever its operands (`30_encoding.md` R91 to R96). -/
def Obligations.DecodeOfEncode : Prop :=
  ∀ i : Instr, decode (encode i) = .ok i

/-- Two codes never name one operation, except message words that differ in the payload of a NaN (log 9): encoding what a
command or a non-NaN message word decodes to gives that code back (R91 to R96); what a message word with a NaN decodes to encodes to
its tag in front of 0x7FC00000, the pattern the model's encoder writes for NaN (log 30; R101 lists it as one NaN pattern). -/
def Obligations.EncodeOfDecode : Prop :=
  (∀ (c : Command) (i : Instr), decode (.cmd c) = .ok i → encode i = .cmd c) ∧
  (∀ (w : MsgWord) (i : Instr), decode (.msg w) = .ok i → (msgValue w).isNaN = false → encode i = .msg w) ∧
  (∀ (w : MsgWord) (i : Instr), decode (.msg w) = .ok i → (msgValue w).isNaN = true →
    encode i = .msg (BitVec.append (BitVec.ofNat 8 (msgTag w)) 0x7FC00000#32))

/-- The layout of a message word and the assignment of the tags (R91, R92, R94): the tag in front of the 32 bits of the
value; tags 8 to 255 name no operation. -/
def Obligations.MessageWordLayout : Prop :=
  ∀ b : BitVec 32,
    decode (.msg (BitVec.append 0#8 b)) = .ok (.size (F32.ofBits b)) ∧
    decode (.msg (BitVec.append 1#8 b)) = .ok (.decay (F32.ofBits b)) ∧
    decode (.msg (BitVec.append 2#8 b)) = .ok (.absorption (F32.ofBits b)) ∧
    decode (.msg (BitVec.append 3#8 b)) = .ok (.hardness (F32.ofBits b)) ∧
    decode (.msg (BitVec.append 4#8 b)) = .ok (.progression (F32.ofBits b)) ∧
    decode (.msg (BitVec.append 5#8 b)) = .ok (.drywet (F32.ofBits b)) ∧
    decode (.msg (BitVec.append 6#8 b)) = .ok (.width (F32.ofBits b)) ∧
    decode (.msg (BitVec.append 7#8 b)) = .ok (.predelay (F32.ofBits b)) ∧
    ∀ tag : BitVec 8, 8 ≤ tag.toNat → decode (.msg (BitVec.append tag b)) = .error (.reservedTag tag.toNat)

/-- Words the spec writes out decode to what it says they are: R99 `1:0.5`, R100 `SIZE 10.0`, the reserved word of R278 (a tag R94
reserves), ids of R96, and the id 0x00, which R96 does not list and which so names no operation (R97). -/
def Obligations.SpecWordsDecode : Prop :=
  decode (.msg 0x013F000000#40) = .ok (.decay (F32.ofBits 0x3F000000#32)) ∧
  decode (.msg 0x0041200000#40) = .ok (.size (F32.ofBits 0x41200000#32)) ∧
  decode (.msg 0x2A3F800000#40) = .error (.reservedTag 0x2A) ∧
  decode (.cmd ⟨0b00000001#8, [.f32 (F32.ofBits 0x473B8000#32)]⟩) = .ok (.reset (F32.ofBits 0x473B8000#32)) ∧
  decode (.cmd ⟨0b00000010#8, [.word 0x013F000000#40]⟩) = .ok (.enq 0x013F000000#40) ∧
  decode (.cmd ⟨0b00000100#8, []⟩) = .ok .drain ∧
  decode (.cmd ⟨0b00010111#8, [.f32 F32.zero]⟩) = .ok (.setPredelay F32.zero) ∧
  decode (.cmd ⟨0b00100100#8, [.line .pre, .f32 F32.zero]⟩) = .ok (.dlProcess .pre F32.zero) ∧
  decode (.cmd ⟨0b00111001#8, [.filter .bench]⟩) = .ok (.bqNew .bench) ∧
  decode (.cmd ⟨0b01010011#8, [.allpass .bench, .f32 F32.zero]⟩) = .ok (.apProcess .bench F32.zero) ∧
  decode (.cmd ⟨0b01110001#8, [.nat 4]⟩) = .ok (.hadamard 4) ∧
  decode (.cmd ⟨0b10000001#8, []⟩) = .ok .syncBack ∧
  decode (.cmd ⟨0b00000000#8, []⟩) = .error (.unknownId 0#8)

/-! ## The step -/

/-- A step executes the oldest presented transaction: decoded, with the rest still presented; an operation that the audio agent executes
inside its commands alone is refused by name (R320, R257, C10, D42; logs 19, 24, 27); an id R96 does not list, or operands that are not its own, make no step; with
nothing presented the state stays (R97, R321; logs 3, 15, 16). -/
def Obligations.StepRunsDecodedCommand : Prop :=
  (∀ s : State, s.pending = [] → step s = .next s) ∧
  (∀ (s : State) (c : Command) (rest : List Command) (i : Instr),
    s.pending = c :: rest → decode (.cmd c) = .ok i → i.wellFormed = true → stage i = .command →
    step s = exec i { s with pending := rest }) ∧
  (∀ (s : State) (c : Command) (rest : List Command) (i : Instr),
    s.pending = c :: rest → decode (.cmd c) = .ok i → i.wellFormed = true → stage i ≠ .command →
    step s = .refused .notAccepted) ∧
  (∀ (s : State) (c : Command) (rest : List Command),
    s.pending = c :: rest → (∀ o : Opcode, o.id ≠ c.id) → step s = .refused .noOperation) ∧
  (∀ (s : State) (c : Command) (rest : List Command) (e : DecodeError),
    s.pending = c :: rest → decode (.cmd c) = .error e → step s = .refused .noOperation) ∧
  (∀ (s : State) (i : Instr) (c : Command) (rest : List Command),
    encode i = .cmd c → s.pending = c :: rest → i.wellFormed = true →
    step s = if stage i = .command then exec i { s with pending := rest } else .refused .notAccepted)

/-! ## Reset -/

/-- The values the spec gives for RESET at 48000.0 Hz (R26 to R28, R30, R31, R33, R36, R37 and R340's example), in `State.reset`:
the parameters of R3's table, the latch, every register of the engine, the filters, the thirteen lines with their words, and the
counters of the queue.  That `State.reset` is the state after that RESET, that its `DAMPING_KIND` is `ONEPOLE`, the name 0 of its `NUM`, and that `cfgOut` holds
the answer of that RESET, are the model's (logs 1, 7, 8, 5). -/
def Obligations.ResetStateValues : Prop :=
  State.reset.par =
    { numName := 0, queueCapacity := 16, cdcLag := .arbitrary, maxDelaySeconds := F32.ofBits 0x3F800000#32, lineMemWords := 192001
      srMin := F32.ofBits 0x3F800000#32, srMax := F32.ofBits 0x483B8000#32, soundSpeed := F32.ofBits 0x43AB8000#32
      stableMax := F32.ofBits 0x3F7C0000#32
      sizeMin := F32.ofBits 0x3F800000#32, sizeMax := F32.ofBits 0x42C80000#32, sizeRst := F32.ofBits 0x41200000#32
      progMin := F32.ofBits 0x3F800000#32, progMax := F32.ofBits 0x40000000#32, progRst := F32.ofBits 0x3FA00000#32
      decayMin := F32.ofBits 0#32, decayMax := F32.ofBits 0x3F7C0000#32, decayRst := F32.ofBits 0x3F000000#32
      absorbMin := F32.ofBits 0#32, absorbMaxDiv := F32.ofBits 0x40000000#32, absorbRstDiv := F32.ofBits 0x40800000#32
      hardMin := F32.ofBits 0x3A800000#32, hardMax := F32.ofBits 0x44800000#32, hardRst := F32.ofBits 0x3F800000#32
      drywetMin := F32.ofBits 0#32, drywetMax := F32.ofBits 0x3F800000#32, drywetRst := F32.ofBits 0x3F000000#32
      widthMin := F32.ofBits 0#32, widthMax := F32.ofBits 0x40000000#32, widthRst := F32.ofBits 0x3F800000#32
      predelayMin := F32.ofBits 0#32, predelayMax := F32.ofBits 0x447A0000#32, predelayRst := F32.ofBits 0#32
      apGainRst := F32.ofBits 0x3F000000#32, damping := .onePole, dampQ := F32.ofBits 0x3F3504F3#32
      qMin := F32.ofBits 0x3A800000#32, qMax := F32.ofBits 0x44800000#32, gainDbMax := F32.ofBits 0x42200000#32
      matrixScale := F32.ofBits 0x3F800000#32 } ∧
  State.reset.cfgOk = true ∧ State.reset.cfgOut = .resetStatus true ∧ State.reset.seq = .idle ∧
  State.reset.eng.fs = F32.ofBits 0x473B8000#32 ∧ State.reset.eng.cap = 48001 ∧
  State.reset.eng.p =
    { size := F32.ofBits 0x41200000#32, decay := F32.ofBits 0x3F000000#32, absorption := F32.ofBits 0x463B8000#32
      hardness := F32.ofBits 0x3F800000#32, progression := F32.ofBits 0x3FA00000#32, drywet := F32.ofBits 0x3F000000#32
      width := F32.ofBits 0x3F800000#32, predelayMs := F32.ofBits 0#32 } ∧
  State.reset.eng.len.toList = [1399, 1748, 2187, 2731, 3413, 4267, 5333, 6665] ∧
  State.reset.eng.fb.toList = [F32.zero, F32.zero, F32.zero, F32.zero] ∧
  (let p := F32.ofBits 0x3F000000#32
   let m := F32.ofBits 0xBF000000#32
   State.reset.eng.fbm = ⟨⟨p, p, p, p⟩, ⟨p, m, p, m⟩, ⟨p, p, m, m⟩, ⟨p, m, m, p⟩⟩) ∧
  (∀ i : Fin 4, ∃ f, State.reset.eng.damp.get i = .onePole f ∧ f.fs = F32.ofBits 0x473B8000#32 ∧ f.state = F32.zero ∧
    f.b1 = State.reset.par.num.exp
      (((F32.ofBits 0x40C90FDB#32).mul (F32.ofBits 0x463B8000#32)).div (F32.ofBits 0x473B8000#32)).negate ∧
    f.a0 = (F32.ofBits 0x3F800000#32).sub f.b1) ∧
  (∀ i : Fin 4,
    (State.reset.eng.ap.get i).gain = F32.ofBits 0x3F000000#32 ∧ (State.reset.eng.ap.get i).fs = F32.ofBits 0x473B8000#32) ∧
  (∀ l : LineRef, l.inEngine = true →
    (State.reset.line l).cap = 48001 ∧ (State.reset.line l).w = 0 ∧ ∀ a, memRead (State.reset.line l).buf a = F32.zero) ∧
  (State.reset.eng.ap.map fun a => (a.inLine.dur, a.outLine.dur)).toList =
    [(1399, 1399), (1748, 1748), (2187, 2187), (2731, 2731)] ∧
  (State.reset.eng.ap.map fun a => (a.inLine.r, a.outLine.r)).toList =
    [(46602, 46602), (46253, 46253), (45814, 45814), (45270, 45270)] ∧
  (State.reset.eng.dl.map fun l => l.dur).toList = [3413, 4267, 5333, 6665] ∧
  (State.reset.eng.dl.map fun l => l.r).toList = [44588, 43734, 42668, 41336] ∧
  State.reset.eng.pre.dur = 0 ∧ State.reset.eng.pre.r = 0 ∧
  State.reset.queue.tail = 0 ∧ State.reset.queue.tailSync = 0 ∧ State.reset.queue.head = 0 ∧ State.reset.queue.headSync = 0

/-- A RESET at a rate it accepts completes and leaves the state of R37's table, by the parameters' names, which depends on nothing of
the state before but the contents of `q_slot`, which R37 calls unspecified (R340, R346); one at another rate leaves the block
unconfigured, as it is at power-on (R340, R342).  That the stand-alone components, the presented transactions and the results of the
other ports stay (log 29, over log 6), and that `cfgOut` holds the answer (log 5), are the model's. -/
def Obligations.ResetLeavesTableState : Prop :=
  (∀ (s : State) (sr : F32), s.par.Legal → (s.seq = .unconfigured ∨ s.seq = .idle) →
    F32.le s.par.srMin sr = true → F32.lt s.par.srMax sr = false →
    (s.par.maxDelaySeconds.mul sr).truncToNat + 1 ≤ s.par.lineMemWords →
    ∃ t, exec (.reset sr) s = .next t ∧
      t.cfgOut = .resetStatus true ∧ t.cfgOk = true ∧ t.seq = .idle ∧
      t.eng.fs = sr ∧ t.eng.cap = (s.par.maxDelaySeconds.mul sr).truncToNat + 1 ∧
      t.eng.p =
        { size := s.par.sizeRst, decay := s.par.decayRst
          absorption := sr.div s.par.absorbRstDiv, hardness := s.par.hardRst
          progression := s.par.progRst, drywet := s.par.drywetRst
          width := s.par.widthRst, predelayMs := s.par.predelayRst } ∧
      t.eng.len.toList =
        coprime (max 2 ((s.par.sizeRst.mul sr).div s.par.soundSpeed).truncToNat) s.par.progRst 8 ∧
      t.eng.fb = ⟨F32.zero, F32.zero, F32.zero, F32.zero⟩ ∧
      t.eng.fbm =
        (let p := ((F32.ofBits 0x3F000000#32).mul s.par.matrixScale).mul (F32.ofBits 0x3F800000#32)
         let m := ((F32.ofBits 0x3F000000#32).mul s.par.matrixScale).mul (F32.ofBits 0xBF800000#32)
         ⟨⟨p, p, p, p⟩, ⟨p, m, p, m⟩, ⟨p, p, m, m⟩, ⟨p, m, m, p⟩⟩) ∧
      (∀ l : LineRef, l.inEngine = true →
        (t.line l).cap = t.eng.cap ∧ (t.line l).w = 0 ∧ ∀ a, memRead (t.line l).buf a = F32.zero) ∧
      t.eng.pre.dur = min ((s.par.predelayRst.mul sr).div (F32.ofBits 0x447A0000#32)).truncToNat (t.eng.cap - 1) ∧
      t.eng.pre.r = (t.eng.cap - t.eng.pre.dur) % t.eng.cap ∧
      (∀ i : Fin 4,
        (t.eng.ap.get i).inLine.dur = max 1 (min (t.eng.len.toList.getD i.val 0) (t.eng.cap - 1)) ∧
        (t.eng.ap.get i).outLine.dur = (t.eng.ap.get i).inLine.dur ∧
        (t.eng.ap.get i).inLine.r = (t.eng.cap - (t.eng.ap.get i).inLine.dur) % t.eng.cap ∧
        (t.eng.ap.get i).outLine.r = (t.eng.ap.get i).inLine.r ∧
        (t.eng.ap.get i).gain = s.par.apGainRst ∧ (t.eng.ap.get i).fs = sr ∧
        (t.eng.dl.get i).dur = min (t.eng.len.toList.getD (4 + i.val) 0) (t.eng.cap - 1) ∧
        (t.eng.dl.get i).r = (t.eng.cap - (t.eng.dl.get i).dur) % t.eng.cap) ∧
      (∀ i : Fin 4,
        (s.par.damping = .onePole → ∃ f, t.eng.damp.get i = .onePole f ∧ f.fs = sr ∧ f.state = F32.zero ∧
          f.b1 = s.par.num.exp
            (((Config.twoPi.mul ((sr.div s.par.absorbRstDiv).clamp F32.zero (sr.div (F32.ofBits 0x40000000#32)))).div sr).negate) ∧
          f.a0 = (F32.ofBits 0x3F800000#32).sub f.b1) ∧
        (s.par.damping = .biquad → ∃ b, t.eng.damp.get i = .biquad b ∧
          b.x1 = F32.zero ∧ b.x2 = F32.zero ∧ b.y1 = F32.zero ∧ b.y2 = F32.zero ∧
          b = bqSetLowpass s.par bqNew
            ((sr.div s.par.absorbRstDiv).div (sr.div (F32.ofBits 0x40000000#32))) s.par.dampQ)) ∧
      t.queue.slot.length = s.par.queueCapacity ∧
      t.queue.tail = 0 ∧ t.queue.tailSync = 0 ∧ t.queue.head = 0 ∧ t.queue.headSync = 0 ∧
      t.par = s.par ∧ t.bench = s.bench ∧ t.pending = s.pending ∧
      t.ctrlOut = s.ctrlOut ∧ t.audioOut = s.audioOut) ∧
  (∀ (s : State) (sr : F32), (s.seq = .unconfigured ∨ s.seq = .idle) →
    ¬ (F32.le s.par.srMin sr = true ∧ F32.lt s.par.srMax sr = false ∧
        (s.par.maxDelaySeconds.mul sr).truncToNat + 1 ≤ s.par.lineMemWords) →
    ∃ t, exec (.reset sr) s = .next t ∧ t.cfgOut = .resetStatus false ∧ t.cfgOk = false ∧ t.seq = .unconfigured ∧
      t.par = s.par ∧ t.bench = s.bench ∧ t.pending = s.pending ∧
      t.ctrlOut = s.ctrlOut ∧ t.audioOut = s.audioOut) ∧
  State.powerOn.cfgOk = false ∧ State.powerOn.seq = .unconfigured

/-- When RESET fails (R341) and when it may be issued (R343): it fails exactly when the rate is NaN, below `SR_MIN` or above
`SR_MAX`, or when the capacity it implies exceeds `LINE_MEM_WORDS`; with the table's values the second test never decides; a capacity
that passes is at least 2. -/
def Obligations.ResetFailsExactly : Prop :=
  (∀ (s : State) (sr : F32), s.par.Legal → (s.seq = .unconfigured ∨ s.seq = .idle) →
    ∃ t, exec (.reset sr) s = .next t ∧
      ((t.cfgOut = .resetStatus false ∧ t.cfgOk = false) ∨
       (t.cfgOut = .resetStatus true ∧ t.cfgOk = true ∧ 2 ≤ t.eng.cap)) ∧
      (t.cfgOut = .resetStatus false ↔
        sr.isNaN = true ∨ F32.lt sr s.par.srMin = true ∨ F32.lt s.par.srMax sr = true ∨
          s.par.lineMemWords < (s.par.maxDelaySeconds.mul sr).truncToNat + 1)) ∧
  (∀ sr : F32, F32.le (F32.ofBits 0x3F800000#32) sr = true → F32.le sr (F32.ofBits 0x483B8000#32) = true →
    2 ≤ ((F32.ofBits 0x3F800000#32).mul sr).truncToNat + 1 ∧
    ((F32.ofBits 0x3F800000#32).mul sr).truncToNat + 1 ≤ 192001) ∧
  (∀ (s : State) (sr : F32), (∃ t, exec (.reset sr) s = .next t) ↔ (s.seq = .unconfigured ∨ s.seq = .idle))

/-- In the unconfigured state the only command that is a step is RESET (R342). -/
def Obligations.UnconfiguredAcceptsOnlyReset : Prop :=
  ∀ (s : State) (i : Instr), s.cfgOk = false → s.seq = .unconfigured →
    ((∃ t, exec i s = .next t) ↔ ∃ sr, i = .reset sr)

/-! ## The parameter setters -/

/-- SET_HARDNESS, SET_DRYWET and SET_WIDTH store the clamped value and change nothing else (R249, R251, R252). -/
def Obligations.ScalarSetters : Prop :=
  ∀ (s : State) (v : F32), s.Draining →
    exec (.setHardness v) s = .next
      { s with
        eng := { s.eng with
          p := { s.eng.p with hardness := v.clamp s.par.hardMin s.par.hardMax } }
        audioOut := .none } ∧
    exec (.setDrywet v) s = .next
      { s with
        eng := { s.eng with p := { s.eng.p with drywet := v.clamp s.par.drywetMin s.par.drywetMax } }
        audioOut := .none } ∧
    exec (.setWidth v) s = .next
      { s with
        eng := { s.eng with p := { s.eng.p with width := v.clamp s.par.widthMin s.par.widthMax } }
        audioOut := .none }

/-- SET_DECAY stores the clamped decay and re-clamps the four allpass gains, which does nothing to gains that are stable already
(R247).  SET_PREDELAY stores the clamped milliseconds and sets the duration of the pre-delay line, clamped to `cap - 1` (R253, with
R121 for the line).  Nothing else changes: no word, no write index. -/
def Obligations.DecayAndPredelaySetters : Prop :=
  ∀ (s : State) (v : F32), s.Draining →
    (∃ t, exec (.setDecay v) s = .next t ∧
      t = { s with
            eng := { s.eng with
              p := { s.eng.p with decay := v.clamp s.par.decayMin s.par.decayMax }
              ap := t.eng.ap }
            audioOut := .none } ∧
      (∀ i, t.eng.ap.get i =
        { s.eng.ap.get i with
          gain := (s.eng.ap.get i).gain.clamp s.par.stableMax.negate s.par.stableMax }) ∧
      ((∀ i, StableGain s.par (s.eng.ap.get i).gain) → t.eng.ap = s.eng.ap)) ∧
    (let ms := v.clamp s.par.predelayMin s.par.predelayMax
     let d := min ((ms.mul s.eng.fs).div (F32.ofBits 0x447A0000#32)).truncToNat (s.eng.pre.cap - 1)
     exec (.setPredelay v) s = .next
       { s with
         eng := { s.eng with
           p := { s.eng.p with predelayMs := ms }
           pre := { s.eng.pre with dur := d, r := (s.eng.pre.w + s.eng.pre.cap - d) % s.eng.pre.cap } }
         audioOut := .none })

/-- SET_SIZE and SET_PROGRESSION store the clamped value, then do what REDERIVE_LENGTHS does (R246, R250). -/
def Obligations.LengthSetters : Prop :=
  ∀ (s : State) (v : F32), s.Draining →
    (∃ t, exec (.setSize v) s = .next t ∧
      exec .rederiveLengths
        { s with
          eng := { s.eng with
            p := { s.eng.p with size := v.clamp s.par.sizeMin s.par.sizeMax } } } = .next t) ∧
    (∃ t, exec (.setProgression v) s = .next t ∧
      exec .rederiveLengths
        { s with
          eng := { s.eng with
            p := { s.eng.p with progression := v.clamp s.par.progMin s.par.progMax } } } = .next t)

/-- REDERIVE_LENGTHS: `len` from COPRIME of the base length, the allpass durations from `len[0..3]`, the main delays from
`len[4..7]`, each clamped by its line; no word, no write index, no gain and nothing else changes (R245, with R121 and R181 for
the lines).  Its own step is where a setter's is, inside a DRAIN (log 27). -/
def Obligations.LengthsRederived : Prop :=
  ∀ s : State, s.Draining →
    ∃ t, exec .rederiveLengths s = .next t ∧
      t = { s with eng := { s.eng with len := t.eng.len, ap := t.eng.ap, dl := t.eng.dl }, audioOut := .none } ∧
      t.eng.len.toList =
        coprime (max 2 ((s.eng.p.size.mul s.eng.fs).div s.par.soundSpeed).truncToNat) s.eng.p.progression 8 ∧
      ∀ i : Fin 4,
        (let a := s.eng.ap.get i
         let d := max 1 (min (t.eng.len.toList.getD i.val 0) (a.inLine.cap - 1))
         let din := min d (a.inLine.cap - 1)
         let dout := min d (a.outLine.cap - 1)
         t.eng.ap.get i =
           { a with
             inLine := { a.inLine with dur := din, r := (a.inLine.w + a.inLine.cap - din) % a.inLine.cap }
             outLine := { a.outLine with dur := dout, r := (a.outLine.w + a.outLine.cap - dout) % a.outLine.cap } }) ∧
        (let l := s.eng.dl.get i
         let d := min (t.eng.len.toList.getD (4 + i.val) 0) (l.cap - 1)
         t.eng.dl.get i = { l with dur := d, r := (l.w + l.cap - d) % l.cap })

/-- SET_ABSORPTION stores the clamped frequency and applies it to the four filters, whose histories stay (R248, R254); the
operation APPLY_ABSORPTION does the second part alone (log 27). -/
def Obligations.AbsorptionApplied : Prop :=
  ∀ (s : State) (v : F32), s.Draining →
    (∃ t, exec (.setAbsorption v) s = .next t ∧
      exec .applyAbsorption
        { s with
          eng := { s.eng with
            p := { s.eng.p with absorption := v.clamp s.par.absorbMin (s.eng.fs.div s.par.absorbMaxDiv) } } } = .next t) ∧
    (∃ t, exec .applyAbsorption s = .next t ∧
      t = { s with eng := { s.eng with damp := t.eng.damp }, audioOut := .none } ∧
      ∀ i,
        (∀ f, s.eng.damp.get i = .onePole f →
          (let b1 := s.par.num.exp
            (((Config.twoPi.mul (s.eng.p.absorption.clamp F32.zero (f.fs.div (F32.ofBits 0x40000000#32)))).div f.fs).negate)
           t.eng.damp.get i = .onePole { f with b1 := b1, a0 := (F32.ofBits 0x3F800000#32).sub b1 })) ∧
        (∀ b, s.eng.damp.get i = .biquad b →
          ∃ c, t.eng.damp.get i = .biquad c ∧
            c = bqSetLowpass s.par b (s.eng.p.absorption.div (s.eng.fs.div (F32.ofBits 0x40000000#32))) s.par.dampQ ∧
            c.x1 = b.x1 ∧ c.x2 = b.x2 ∧ c.y1 = b.y1 ∧ c.y2 = b.y2))

/-- Each parameter message, executed, does what the setter of its tag does: it completes, stores the clamped value in the
register of its tag and leaves the seven others (R26, R92; that a message is an operation of its own is log 14). -/
def Obligations.MessagesActAsSetters : Prop :=
  ∀ (s : State) (v : F32), s.Draining →
    ∀ e ∈ [((0 : Fin 8), Instr.size v, Instr.setSize v, s.par.sizeMin, s.par.sizeMax),
           (1, .decay v, .setDecay v, s.par.decayMin, s.par.decayMax),
           (2, .absorption v, .setAbsorption v, s.par.absorbMin, s.eng.fs.div s.par.absorbMaxDiv),
           (3, .hardness v, .setHardness v, s.par.hardMin, s.par.hardMax),
           (4, .progression v, .setProgression v, s.par.progMin, s.par.progMax),
           (5, .drywet v, .setDrywet v, s.par.drywetMin, s.par.drywetMax),
           (6, .width v, .setWidth v, s.par.widthMin, s.par.widthMax),
           (7, .predelay v, .setPredelay v, s.par.predelayMin, s.par.predelayMax)],
      ∃ t, exec e.2.1 s = .next t ∧ exec e.2.2.1 s = .next t ∧
        t.eng.p.reg e.1 = v.clamp e.2.2.2.1 e.2.2.2.2 ∧
        ∀ u : Fin 8, u ≠ e.1 → t.eng.p.reg u = s.eng.p.reg u

/-- No setter, no message and no helper touches `fb`, a buffer word, a write index, a filter's history or the queue (R257);
DRAIN, which runs at most one setter, and DEQ neither, but for `q_head` and its copy, which count the message they take.  A setter, a message or a helper is a step inside a
DRAIN and nowhere else (R257, R320; for the messages log 14, for the helpers log 27). -/
def Obligations.SettersKeepSound : Prop :=
  (∀ (i : Instr) (s t : State), i.agent = .audio → i.onComponent = false → i.computesSamples = false →
    exec i s = .next t →
    t.eng.fb = s.eng.fb ∧ t.eng.fbm = s.eng.fbm ∧ t.eng.fs = s.eng.fs ∧ t.eng.cap = s.eng.cap ∧ t.bench = s.bench ∧
    (∀ l : LineRef, (t.line l).buf = (s.line l).buf ∧ (t.line l).w = (s.line l).w ∧ (t.line l).cap = (s.line l).cap) ∧
    (∀ j f, s.eng.damp.get j = .onePole f → ∃ g, t.eng.damp.get j = .onePole g ∧ g.state = f.state ∧ g.fs = f.fs) ∧
    (∀ j b, s.eng.damp.get j = .biquad b →
      ∃ c, t.eng.damp.get j = .biquad c ∧ c.x1 = b.x1 ∧ c.x2 = b.x2 ∧ c.y1 = b.y1 ∧ c.y2 = b.y2) ∧
    (i ≠ .deq → i ≠ .drain → t.queue = s.queue) ∧
    t.queue.slot = s.queue.slot ∧ t.queue.tail = s.queue.tail ∧ t.queue.tailSync = s.queue.tailSync ∧
    (s.par.cdcLag = .arbitrary → t.queue.headSync = s.queue.headSync)) ∧
  ∀ (i : Instr) (s : State), i.onComponent = false → stage i = .drain → ((∃ t, exec i s = .next t) ↔ s.Draining)

/-! ## The parameter channel -/

/-- ENQ (R271): on a queue that looks full it returns FAIL and changes nothing else; otherwise the word goes into its slot,
every other slot stays, and `q_tail` moves on, with its copy when `CDC_LAG` is `ZERO`.  In a state of `QINV` there is then room,
and every message not yet taken stays.  It is enabled exactly when the block is configured.  The clauses on slots speak of a message
memory of `Q` >= 1 words, which the invariant gives. -/
def Obligations.Enqueue : Prop :=
  (∀ (s : State) (w : MsgWord), (∃ t, exec (.enq w) s = .next t) ↔ s.cfgOk = true) ∧
  ∀ (s : State) (w : MsgWord), s.cfgOk = true →
    (let q := s.par.queueCapacity
     (s.queue.tail - s.queue.headSync = q → exec (.enq w) s = .next { s with ctrlOut := .enqStatus false }) ∧
     (s.queue.tail - s.queue.headSync ≠ q →
      ∃ t, exec (.enq w) s = .next t ∧
        t = { s with
              queue := { s.queue with
                slot := t.queue.slot
                tail := s.queue.tail + 1
                tailSync := if s.par.cdcLag = .zero then s.queue.tail + 1 else s.queue.tailSync }
              ctrlOut := .enqStatus true } ∧
        t.queue.slot.length = s.queue.slot.length ∧
        (1 ≤ q → s.queue.slot.length = q →
          ∀ k, k < q → slotRead q t.queue.slot k = if k = s.queue.tail % q then w else slotRead q s.queue.slot k) ∧
        (1 ≤ q → s.queue.QInv s.par → s.queue.tail - s.queue.head < q ∧
          ∀ k, s.queue.head ≤ k → k < s.queue.tail → slotRead q t.queue.slot k = slotRead q s.queue.slot k)))

/-- DEQ (R272): on a queue that looks empty it returns NONE and changes nothing else; otherwise it returns the word of the slot
`q_head mod Q` and `q_head` moves on, with its copy when `CDC_LAG` is `ZERO`.  It is enabled exactly in IDLE and DRAINING. -/
def Obligations.Dequeue : Prop :=
  (∀ s : State, (∃ t, exec .deq s = .next t) ↔ s.Between) ∧
  ∀ s : State, s.Between →
    (s.queue.tailSync = s.queue.head → exec .deq s = .next { s with audioOut := .dequeued none }) ∧
    (s.queue.tailSync ≠ s.queue.head →
      exec .deq s = .next
        { s with
          queue := { s.queue with
            head := s.queue.head + 1
            headSync := if s.par.cdcLag = .zero then s.queue.head + 1 else s.queue.headSync }
          audioOut := .dequeued (some (s.queue.slot.getD (s.queue.head % s.par.queueCapacity) 0)) })

/-- SYNC_FWD and SYNC_BACK (R274, R275): each is a step exactly when its copy is behind, `CDC_LAG` is `ARBITRARY` and the block is
configured (R342), and then moves its copy on by one and changes nothing else. -/
def Obligations.PublicationSteps : Prop :=
  ∀ s : State,
    (s.cfgOk = true → s.par.cdcLag = .arbitrary → s.queue.tailSync < s.queue.tail →
      exec .syncFwd s = .next { s with queue := { s.queue with tailSync := s.queue.tailSync + 1 } }) ∧
    (s.cfgOk = true → s.par.cdcLag = .arbitrary → s.queue.headSync < s.queue.head →
      exec .syncBack s = .next { s with queue := { s.queue with headSync := s.queue.headSync + 1 } }) ∧
    ((∃ t, exec .syncFwd s = .next t) → s.cfgOk = true ∧ s.par.cdcLag = .arbitrary ∧ s.queue.tailSync < s.queue.tail) ∧
    ((∃ t, exec .syncBack s = .next t) → s.cfgOk = true ∧ s.par.cdcLag = .arbitrary ∧ s.queue.headSync < s.queue.head)

/-- The four queue steps keep `QINV`, RESET establishes it, no queue step lowers a counter, and at most `Q` messages are in the
queue (R273). -/
def Obligations.QueueInvariantKept : Prop :=
  (∀ (i : Instr) (s t : State), (i.agent = .control ∨ i.agent = .cdc ∨ i = .deq) →
    s.queue.QInv s.par → exec i s = .next t →
      t.par = s.par ∧ t.queue.QInv t.par ∧ s.queue.tail ≤ t.queue.tail ∧ s.queue.tailSync ≤ t.queue.tailSync ∧
      s.queue.head ≤ t.queue.head ∧ s.queue.headSync ≤ t.queue.headSync) ∧
  (∀ (sr : F32) (s t : State), exec (.reset sr) s = .next t → t.cfgOk = true → t.queue.QInv t.par) ∧
  (∀ (k : Parameters) (q : Queue), q.QInv k → q.tail - q.head ≤ k.queueCapacity)

/-- Messages are dequeued in the order their ENQs succeeded, each exactly once, none invented (R69): from an empty queue, over
any run of operations between two RESETs, the words taken by the successful DEQs, those inside DRAIN and CALLBACK included, are a
prefix of the words of the successful ENQs, and the slots from `q_head` to `q_tail - 1` hold the rest, in order. -/
def Obligations.FifoOrder : Prop :=
  ∀ (s u : State) (is : List Instr) (sent taken : List MsgWord),
    1 ≤ s.par.queueCapacity → s.queue.slot.length = s.par.queueCapacity →
    s.queue.tail = s.queue.head → s.queue.tailSync = s.queue.head → s.queue.headSync = s.queue.head →
    (∀ i ∈ is, i.agent ≠ .host) → channelRun s is = some (u, sent, taken) →
    taken <+: sent ∧ u.queue.head = s.queue.head + taken.length ∧ u.queue.tail = s.queue.tail + sent.length ∧
      u.queue.QInv s.par ∧
      (List.range (u.queue.tail - u.queue.head)).map
        (fun n => slotRead s.par.queueCapacity u.queue.slot (u.queue.head + n)) = sent.drop taken.length

/-- Every behaviour of `CDC_LAG` = `ZERO` is a behaviour of `ARBITRARY` (R276): a step that moves `q_tail` (an ENQ) or `q_head` (a DEQ,
or a DRAIN or CALLBACK that takes a message) under `ZERO` is, under `ARBITRARY`, the same step followed at once by the SYNC step of that
counter; a step that moves neither is the same step. -/
def Obligations.ZeroLagIsImmediateSync : Prop :=
  ∀ (i : Instr) (s t : State), s.par.cdcLag = .zero → s.queue.tailSync = s.queue.tail → s.queue.headSync = s.queue.head →
    exec i s = .next t →
    (let lagging (u : State) : State := { u with par := { u.par with cdcLag := .arbitrary } }
     ∃ m, exec i (lagging s) = .next m ∧
       (i.agent ≠ .host → t.queue.tail ≠ s.queue.tail → exec .syncFwd m = .next (lagging t)) ∧
       (i.agent ≠ .host → t.queue.head ≠ s.queue.head → exec .syncBack m = .next (lagging t)) ∧
       (i.agent = .host ∨ (t.queue.tail = s.queue.tail ∧ t.queue.head = s.queue.head) → m = lagging t))

/-- DRAIN (R277, R278): from IDLE it makes one DEQ in DRAINING; a word whose tag is 0 to 7 is applied by executing the setter of the
tag on the value of its low 32 bits, a reserved word and no word apply nothing; then IDLE again.  It is accepted in IDLE only. -/
def Obligations.DrainAppliesOneMessage : Prop :=
  (∀ s : State, (∃ t, exec .drain s = .next t) ↔ s.Idle) ∧
  ∀ s : State, s.Idle →
    ∃ d t, exec .deq { s with seq := .draining } = .next d ∧ exec .drain s = .next t ∧
      (d.audioOut = .dequeued none → t = { s with audioOut := .none }) ∧
      ∀ w, d.audioOut = .dequeued (some w) →
        (let v := F32.ofBits (w.extractLsb' 0 32)
         (∀ e ∈ [(0#8, Instr.setSize v), (1#8, .setDecay v), (2#8, .setAbsorption v), (3#8, .setHardness v),
                 (4#8, .setProgression v), (5#8, .setDrywet v), (6#8, .setWidth v), (7#8, .setPredelay v)],
           w.extractLsb' 32 8 = e.1 → ∃ m, exec e.2 d = .next m ∧ t = { m with seq := .idle }) ∧
         (8#8 ≤ w.extractLsb' 32 8 → t = { d with seq := .idle, audioOut := .none }))

/-- CALLBACK is DRAIN then RENDER (R279), accepted in IDLE only, and takes at most one message whatever the queue holds (R281). -/
def Obligations.CallbackIsDrainThenRender : Prop :=
  (∀ (s : State) (xs : List F32), (∃ t, exec (.callback xs) s = .next t) ↔ s.Idle) ∧
  ∀ (s : State) (xs : List F32), s.Idle →
    ∃ m t, exec .drain s = .next m ∧ exec (.render xs) m = .next t ∧ exec (.callback xs) s = .next t ∧
      s.queue.head ≤ t.queue.head ∧ t.queue.head ≤ s.queue.head + 1 ∧ t.queue.tail = s.queue.tail ∧
      t.queue.slot = s.queue.slot

/-! ## The network -/

/-- FDN_SAMPLE (R240): the six steps and the output stage, in the rule's order and grouping; it writes `fb`, the states of the
filters and the thirteen lines, and nothing else.  It is executed in RENDERING(k), inside a RENDER, and moves on to RENDERING(k+1)
(R24, R242, R320); that it is a step there on its own is the model's (log 24). -/
def Obligations.SampleFollowsSixSteps : Prop :=
  ∀ (s : State) (x : F32) (k : Nat), s.cfgOk = true → s.seq = .rendering k →
    ∃ (t : State) (u d a e lim mixed : Fin 4 → F32), exec (.fdnSample x) s = .next t ∧
      t = { s with
            seq := .rendering (k + 1)
            eng := { s.eng with
              pre := (dlProcess s.eng.pre x).1, damp := t.eng.damp, ap := t.eng.ap, dl := t.eng.dl, fb := t.eng.fb }
            audioOut := t.audioOut } ∧
      (∀ i,
        u i = (dlProcess s.eng.pre x).2.add (s.eng.fb.get i) ∧
        (∀ f, s.eng.damp.get i = .onePole f → d i = (opProcess f (u i)).2 ∧ t.eng.damp.get i = .onePole (opProcess f (u i)).1) ∧
        (∀ b, s.eng.damp.get i = .biquad b → d i = (bqProcess b (u i)).2 ∧ t.eng.damp.get i = .biquad (bqProcess b (u i)).1) ∧
        a i = (apProcess (s.eng.ap.get i) (d i)).2 ∧ t.eng.ap.get i = (apProcess (s.eng.ap.get i) (d i)).1 ∧
        e i = (dlProcess (s.eng.dl.get i) (a i)).2 ∧ t.eng.dl.get i = (dlProcess (s.eng.dl.get i) (a i)).1 ∧
        lim i = (s.par.num.tanh ((e i).mul s.eng.p.hardness)).div s.eng.p.hardness ∧
        (let row := s.eng.fbm.get i
         mixed i = ((((row.get 0).mul (lim 0)).add ((row.get 1).mul (lim 1))).add ((row.get 2).mul (lim 2))).add
           ((row.get 3).mul (lim 3))) ∧
        t.eng.fb.get i = (mixed i).mul s.eng.p.decay) ∧
      (let dry := x.mul ((F32.ofBits 0x3F800000#32).sub s.eng.p.drywet)
       let l := dry.add (s.eng.p.drywet.mul ((t.eng.fb.get 0).add (t.eng.fb.get 2)))
       let r := dry.add (s.eng.p.drywet.mul ((t.eng.fb.get 1).add (t.eng.fb.get 3)))
       let mid := (l.add r).div (F32.ofBits 0x40000000#32)
       let side := ((l.sub r).div (F32.ofBits 0x40000000#32)).mul s.eng.p.width
       t.audioOut = .stereo (mid.add side) (mid.sub side))

/-- RENDER (R242): accepted in IDLE only; RENDERING(0), FDN_SAMPLE of each sample in order, RENDERING(n), then IDLE; the output
interleaves left and right (R102); no queue state is touched; a block may be cut in two. -/
def Obligations.RenderIsSampleBySample : Prop :=
  (∀ (s : State) (xs : List F32), (∃ t, exec (.render xs) s = .next t) ↔ s.Idle) ∧
  (∀ (s : State) (xs : List F32), s.Idle →
    ∃ (m : State) (ys : List F32),
      samplesRun xs { s with seq := .rendering 0 } = some (m, ys) ∧ m.seq = .rendering xs.length ∧
      ys.length = 2 * xs.length ∧ m.queue = s.queue ∧
      exec (.render xs) s = .next { m with seq := .idle, audioOut := .block ys }) ∧
  (∀ s : State, s.Idle → exec (.render []) s = .next { s with audioOut := .block [] }) ∧
  ∀ (s : State) (xs zs : List F32), s.Idle →
    ∃ t u ys vs, exec (.render xs) s = .next t ∧ t.audioOut = .block ys ∧ exec (.render zs) t = .next u ∧
      u.audioOut = .block vs ∧ exec (.render (xs ++ zs)) s = .next { u with audioOut := .block (ys ++ vs) }

/-- RENDER commutes with every step of the other agents (R73): ENQ, SYNC_FWD or SYNC_BACK before a RENDER, or after it, gives the
same state. -/
def Obligations.RenderCommutesWithQueueSteps : Prop :=
  ∀ (i : Instr) (xs : List F32) (s t : State), i.agent = .control ∨ i.agent = .cdc →
    ((∃ m, exec (.render xs) s = .next m ∧ exec i m = .next t) ↔
     (∃ m, exec i s = .next m ∧ exec (.render xs) m = .next t))

/-- The four channels as lanes (R243): what steps 1 to 4 do to channel `i`, its `lim[i]` and the filter, the allpass and the line it
leaves, depends on the output of the pre-delay, `fb[i]`, `P[3]` and the channel's own filter, allpass and line alone; and it is what
FDN_SAMPLE, executed inside a RENDER (log 24), leaves in the channel and, weighed by column `i` of `fbm`, puts into every `fb[j]`.  The
two blocks compute with the same `NUM`. -/
def Obligations.ChannelsAreIndependent : Prop :=
  ∀ (s t s' t' : State) (x : F32) (i : Fin 4),
    exec (.fdnSample x) s = .next s' → exec (.fdnSample x) t = .next t' →
    s.par.num = t.par.num → (dlProcess s.eng.pre x).2 = (dlProcess t.eng.pre x).2 → s.eng.fb.get i = t.eng.fb.get i →
    s.eng.p.hardness = t.eng.p.hardness → s.eng.damp.get i = t.eng.damp.get i → s.eng.ap.get i = t.eng.ap.get i →
    s.eng.dl.get i = t.eng.dl.get i →
    (let lane (u : State) (j : Fin 4) : Channel × F32 := u.eng.channelSample u.par.num (dlProcess u.eng.pre x).2 j
     lane s i = lane t i ∧ s'.eng.channel i = (lane s i).1 ∧ t'.eng.channel i = (lane s i).1 ∧
     ∀ j, s'.eng.fb.get j =
       (((((((s.eng.fbm.get j).get 0).mul (lane s 0).2).add (((s.eng.fbm.get j).get 1).mul (lane s 1).2)).add
         (((s.eng.fbm.get j).get 2).mul (lane s 2).2))).add (((s.eng.fbm.get j).get 3).mul (lane s 3).2)).mul s.eng.p.decay)

/-- Silence is a fixed point (R244): with zero lines, zero filter states and zero `fb`, in a state of the invariant, FDN_SAMPLE of
`+0`, executed in RENDERING(k) as a RENDER does, answers `(+0, +0)` and leaves all of them `+0`; that it is a step there on its own is
the model's (log 24, a DESIGN CHOICE).  The premises on signs say what RESET leaves, with a `MATRIX_SCALE` that is no `-0`: a setter given `-0` may
store it, and then a product may be `-0`. -/
def Obligations.SilenceIsFixedPoint : Prop :=
  ∀ s : State, Inv s → s.Rendering → s.par.matrixScale.sign = false → s.eng.p.decay.sign = false →
    (∀ i, s.eng.fb.get i = F32.zero) →
    (∀ l : LineRef, l.inEngine = true → ∀ a, memRead (s.line l).buf a = F32.zero) →
    (∀ i f, s.eng.damp.get i = .onePole f → f.state = F32.zero ∧
      f.a0.isFinite = true ∧ f.b1.isFinite = true ∧ f.a0.sign = false) →
    (∀ i b, s.eng.damp.get i = .biquad b → b.x1 = F32.zero ∧ b.x2 = F32.zero ∧ b.y1 = F32.zero ∧ b.y2 = F32.zero ∧
      b.b0.isFinite = true ∧ b.b1.isFinite = true ∧ b.b2.isFinite = true ∧ b.a1.isFinite = true ∧ b.a2.isFinite = true ∧
      b.b0.sign = false) →
    ∃ t, exec (.fdnSample F32.zero) s = .next t ∧ t.audioOut = .stereo F32.zero F32.zero ∧
      (∀ i, t.eng.fb.get i = F32.zero) ∧
      (∀ l : LineRef, l.inEngine = true → ∀ a, memRead (t.line l).buf a = F32.zero) ∧
      (∀ i f, t.eng.damp.get i = .onePole f → f.state = F32.zero) ∧
      (∀ i b, t.eng.damp.get i = .biquad b → b.x1 = F32.zero ∧ b.x2 = F32.zero ∧ b.y1 = F32.zero ∧ b.y2 = F32.zero)

/-- The output stage at its ends (R241): with `drywet` = 0 the block passes its input through, with `width` = 0 it is mono, where
nothing is infinite or NaN on the way. -/
def Obligations.OutputStageEnds : Prop :=
  (∀ (drywet width x : F32) (fb : Quad F32),
    F32.feq drywet F32.zero = true → width.isFinite = true → x.isFinite = true → (x.add x).isFinite = true →
    (fb.c0.add fb.c2).isFinite = true → (fb.c1.add fb.c3).isFinite = true →
    F32.feq (outputStage drywet width x fb).1 x = true ∧ F32.feq (outputStage drywet width x fb).2 x = true ∧
    (F32.feq x F32.zero = false → outputStage drywet width x fb = (x, x))) ∧
  (∀ (drywet width x : F32) (fb : Quad F32),
    F32.feq width F32.zero = true →
    (let dry := x.mul (Config.one.sub drywet)
     let l := dry.add (drywet.mul (fb.c0.add fb.c2))
     let r := dry.add (drywet.mul (fb.c1.add fb.c3))
     l.isFinite = true ∧ r.isFinite = true ∧ (l.add r).isFinite = true ∧ (l.sub r).isFinite = true) →
    F32.feq (outputStage drywet width x fb).1 (outputStage drywet width x fb).2 = true)

/-! ## The delay line -/

/-- DL_NEW and DL_SET_DURATION (R120, R121): the registers as the rules say, zeroed or untouched words, and every other line as
before.  DL_SET_DURATION is executed on any line, on one of the engine inside a DRAIN (R320; log 19); DL_NEW makes the stand-alone line,
and on a line of the engine, which is never resized after RESET (R65), or of an allpass it stops by name, as it does for no words
(log 6). -/
def Obligations.LineCreatedAndTimed : Prop :=
  ∀ (s : State) (l : LineRef),
    (∀ c, 1 ≤ c → s.Configured → ∃ t, exec (.dlNew .bench c) s = .next t ∧
      t = (s.setLine .bench (t.line .bench)).returning .none ∧
      (t.line .bench).cap = c ∧ (t.line .bench).w = 0 ∧ (t.line .bench).dur = c - 1 ∧ (t.line .bench).r = 1 % c ∧
      (∀ a, memRead (t.line .bench).buf a = F32.zero) ∧ ∀ k, k ≠ .bench → t.line k = s.line k) ∧
    (∀ c, 1 ≤ c → l ≠ .bench → exec (.dlNew l c) s = .refused .madeElsewhere) ∧
    exec (.dlNew l 0) s = .refused .noCapacity ∧
    (∀ d, s.During (LineRef.stage l .drain) → ∃ t, exec (.dlSetDuration l d) s = .next t ∧
      t = (s.setLine l (t.line l)).returning .none ∧
      t.line l =
        (let d' := min d ((s.line l).cap - 1)
         { s.line l with dur := d', r := ((s.line l).w + (s.line l).cap - d') % (s.line l).cap }) ∧
      ∀ k, k ≠ l → t.line k = s.line k)

/-- DL_WRITE and DL_READ, executed on any line, on one of the engine inside a RENDER (R122, R123, R320; log 19): the one word at the
index, the index moved on modulo `cap`; every other word, every other register of the line and every other line as before.  DL_PROCESS
is DL_WRITE then DL_READ (R124), and DL_PROCESS_BLOCK is DL_PROCESS of each sample in order (R125), on any line whatever its
registers. -/
def Obligations.LineAccess : Prop :=
  (∀ (s : State) (l : LineRef) (x : F32), s.During (LineRef.stage l .render) → (s.line l).Wf →
    (∃ t, exec (.dlWrite l x) s = .next t ∧ t = (s.setLine l (t.line l)).returning .none ∧
      t.line l = { s.line l with buf := (t.line l).buf, w := ((s.line l).w + 1) % (s.line l).cap } ∧
      (∀ a, memRead (t.line l).buf a = if a = (s.line l).w then x else memRead (s.line l).buf a) ∧
      (t.line l).Wf ∧ ∀ k, k ≠ l → t.line k = s.line k) ∧
    (∃ t, exec (.dlRead l) s = .next t ∧
      t = (s.setLine l { s.line l with r := ((s.line l).r + 1) % (s.line l).cap }).returning
        (.sample (memRead (s.line l).buf (s.line l).r)) ∧
      ∀ k, k ≠ l → t.line k = s.line k)) ∧
  ∀ (s : State) (l : LineRef), s.During (LineRef.stage l .render) →
    (∀ x, ∃ m t, exec (.dlWrite l x) s = .next m ∧ exec (.dlRead l) m = .next t ∧ exec (.dlProcess l x) s = .next t) ∧
    exec (.dlProcessBlock l []) s = .next { s with audioOut := .block [] } ∧
    (∀ x xs, ∃ m t y ys, exec (.dlProcess l x) s = .next m ∧ m.audioOut = .sample y ∧
      exec (.dlProcessBlock l xs) m = .next t ∧ t.audioOut = .block ys ∧
      exec (.dlProcessBlock l (x :: xs)) s = .next { t with audioOut := .block (y :: ys) })

/-- Where `LAG` holds (R126): after DL_NEW, after DL_SET_DURATION, after a write and a read in either order; not between the two
halves of such a pair on a line of more than one word.  Transparency at `dur` = 0 (R128): DL_PROCESS returns its input, whatever it
is, and the line still stores it and advances both indices. -/
def Obligations.LagAndTransparency : Prop :=
  (∀ c, 1 ≤ c → (dlNew c).Lag) ∧
  (∀ (l : DelayLine) (d : Nat), (dlSetDuration l d).Lag) ∧
  (∀ (l : DelayLine) (x : F32), l.Wf → l.Lag →
    (dlProcess l x).1.Lag ∧ (dlWrite (dlRead l).1 x).Lag ∧
    (2 ≤ l.cap → ¬ (dlWrite l x).Lag ∧ ¬ (dlRead l).1.Lag) ∧
    (l.dur = 0 →
      l.r = l.w ∧ (dlProcess l x).2 = x ∧ memRead (dlProcess l x).1.buf l.w = x ∧
      (dlProcess l x).1.w = (l.w + 1) % l.cap ∧ (dlProcess l x).1.r = (l.r + 1) % l.cap))

/-- The delay law (R127): a line made by DL_NEW and used through DL_PROCESS, with DL_SET_DURATION any number of times between the
calls, returns at call `m`, executed while its duration is `d`, the input of call `m - d`, or `+0` when `m < d`. -/
def Obligations.DelayLaw : Prop :=
  ∀ (c : Nat) (ops : List LineOp) (x : F32), 1 ≤ c →
    (let l := lineAfter (dlNew c) ops
     let xs := lineInputs ops ++ [x]
     let m := (lineInputs ops).length
     (dlProcess l x).2 = if l.dur ≤ m then xs.getD (m - l.dur) F32.zero else F32.zero)

/-! ## The biquad -/

/-- The table of boundary behaviours (R144 to R151): the constant-gain filter of each of the eight setters for a frequency at or
above 1, at or below 0 (NaN included), and, for the four types that special-case it, for a Q at or below 0. -/
def Obligations.BiquadBoundaries : Prop :=
  ∀ (k : Parameters) (b : Biquad) (nf q gainDb : F32), k.Legal →
    (let gain (g : F32) : Biquad := { b with b0 := g, b1 := F32.zero, b2 := F32.zero, a1 := F32.zero, a2 := F32.zero }
     let a := k.num.pow10 ((gainDb.clamp k.gainDbMax.negate k.gainDbMax).div
       (F32.ofBits 0x42200000#32))
     let one := F32.ofBits 0x3F800000#32
     (F32.le one nf = true →
       bqSetLowpass k b nf q = gain one ∧ bqSetHighpass k b nf q = gain F32.zero ∧ bqSetBandpass k b nf q = gain F32.zero ∧
       bqSetLowshelf k b nf gainDb = gain (a.mul a) ∧ bqSetHighshelf k b nf gainDb = gain one ∧
       bqSetPeaking k b nf q gainDb = gain one ∧ bqSetAllpass k b nf q = gain one ∧ bqSetNotch k b nf q = gain one) ∧
     (F32.lt F32.zero nf = false →
       bqSetLowpass k b nf q = gain F32.zero ∧ bqSetHighpass k b nf q = gain one ∧ bqSetBandpass k b nf q = gain F32.zero ∧
       bqSetLowshelf k b nf gainDb = gain one ∧ bqSetHighshelf k b nf gainDb = gain (a.mul a) ∧
       bqSetPeaking k b nf q gainDb = gain one ∧ bqSetAllpass k b nf q = gain one ∧ bqSetNotch k b nf q = gain one) ∧
     (F32.lt F32.zero nf = true → F32.lt nf one = true → F32.lt F32.zero q = false →
       bqSetBandpass k b nf q = gain one ∧ bqSetPeaking k b nf q gainDb = gain (a.mul a) ∧
       bqSetAllpass k b nf q = gain (F32.ofBits 0xBF800000#32) ∧ bqSetNotch k b nf q = gain F32.zero))

/-- The formulas of the eight setters inside the band (R142, R144 to R151, R153, R155). -/
def Obligations.BiquadFormulas : Prop :=
  ∀ (k : Parameters) (b : Biquad) (nf q gainDb : F32), k.Legal →
    F32.lt F32.zero nf = true → F32.lt nf (F32.ofBits 0x3F800000#32) = true →
    (let one := F32.ofBits 0x3F800000#32
     let two := F32.ofBits 0x40000000#32
     let minusTwo := F32.ofBits 0xC0000000#32
     let w0 := (F32.ofBits 0x40490FDB#32).mul nf
     let cs := k.num.cos w0
     let sn := k.num.sin w0
     let a := k.num.pow10 ((gainDb.clamp k.gainDbMax.negate k.gainDbMax).div
       (F32.ofBits 0x42200000#32))
     let norm (b0 b1 b2 a0 a1 a2 : F32) : Biquad :=
       { b with b0 := b0.div a0, b1 := b1.div a0, b2 := b2.div a0, a1 := a1.div a0, a2 := a2.div a0 }
     let a1 := minusTwo.mul cs
     let sq := (two.mul a.sqrt).mul (sn.div (F32.ofBits 0x3FB504F3#32))
     let ap := a.add one
     let am := a.sub one
     (let al := sn.div (two.mul (q.clamp k.qMin k.qMax))
      bqSetLowpass k b nf q =
        norm ((one.sub cs).div two) (one.sub cs) ((one.sub cs).div two) (one.add al) a1 (one.sub al) ∧
      bqSetHighpass k b nf q =
        norm ((one.add cs).div two) (one.add cs).negate ((one.add cs).div two) (one.add al) a1 (one.sub al)) ∧
     (F32.lt F32.zero q = true →
       (let al := sn.div (two.mul (q.clamp F32.zero k.qMax))
        bqSetBandpass k b nf q = norm al F32.zero al.negate (one.add al) a1 (one.sub al) ∧
        bqSetPeaking k b nf q gainDb =
          norm (one.add (al.mul a)) a1 (one.sub (al.mul a)) (one.add (al.div a)) a1 (one.sub (al.div a)) ∧
        bqSetAllpass k b nf q = norm (one.sub al) a1 (one.add al) (one.add al) a1 (one.sub al) ∧
        bqSetNotch k b nf q = norm one a1 one (one.add al) a1 (one.sub al))) ∧
     bqSetLowshelf k b nf gainDb =
       norm (a.mul ((ap.sub (am.mul cs)).add sq)) ((two.mul a).mul (am.sub (ap.mul cs)))
         (a.mul ((ap.sub (am.mul cs)).sub sq)) ((ap.add (am.mul cs)).add sq) (minusTwo.mul (am.add (ap.mul cs)))
         ((ap.add (am.mul cs)).sub sq) ∧
     bqSetHighshelf k b nf gainDb =
       norm (a.mul ((ap.add (am.mul cs)).add sq)) ((minusTwo.mul a).mul (am.add (ap.mul cs)))
         (a.mul ((ap.add (am.mul cs)).sub sq)) ((ap.sub (am.mul cs)).add sq) (two.mul (am.sub (ap.mul cs)))
         ((ap.sub (am.mul cs)).sub sq))

/-- The eight BQ_SET_* complete on any Biquad, on one of the engine inside a DRAIN (R320; log 19), for any operands, write its five
coefficients and nothing else: the history stays (R154); on a channel whose filter is a one-pole they stop by name (log 20). -/
def Obligations.BiquadSettersKeepHistory : Prop :=
  ∀ (s : State) (f : FilterRef) (nf q gainDb : F32), s.During (FilterRef.stage f .drain) →
    ∀ e ∈ [(Instr.bqSetLowpass f nf q, fun b => bqSetLowpass s.par b nf q),
           (.bqSetHighpass f nf q, fun b => bqSetHighpass s.par b nf q),
           (.bqSetBandpass f nf q, fun b => bqSetBandpass s.par b nf q),
           (.bqSetLowshelf f nf gainDb, fun b => bqSetLowshelf s.par b nf gainDb),
           (.bqSetHighshelf f nf gainDb, fun b => bqSetHighshelf s.par b nf gainDb),
           (.bqSetPeaking f nf q gainDb, fun b => bqSetPeaking s.par b nf q gainDb),
           (.bqSetAllpass f nf q, fun b => bqSetAllpass s.par b nf q),
           (.bqSetNotch f nf q, fun b => bqSetNotch s.par b nf q)],
      (∀ b, s.biquad f = some b →
        exec e.1 s = .next ((s.setBiquad f (e.2 b)).returning .none) ∧
        (e.2 b).x1 = b.x1 ∧ (e.2 b).x2 = b.x2 ∧ (e.2 b).y1 = b.y1 ∧ (e.2 b).y2 = b.y2 ∧
        (∀ g, g ≠ f → (s.setBiquad f (e.2 b)).biquad g = s.biquad g)) ∧
      (s.biquad f = none → exec e.1 s = .refused .absentFilter)

/-- BQ_NEW and BQ_PROCESS (R141, R152): the identity filter with a zero history; the difference equation, in the rule's order, and
the shift of the history; nothing else changes.  BQ_NEW makes the stand-alone filter, and stops by name on one of the engine, which RESET
alone makes (R320; log 6); BQ_PROCESS is executed on any Biquad, on one of the engine inside a RENDER (log 19), and on a channel whose
filter is a one-pole it stops by name (log 20). -/
def Obligations.BiquadProcessing : Prop :=
  ∀ (s : State) (f : FilterRef) (x : F32),
    (s.Configured →
      exec (.bqNew .bench) s = .next ((s.setBiquad .bench
        { b0 := F32.ofBits 0x3F800000#32, b1 := F32.zero, b2 := F32.zero, a1 := F32.zero, a2 := F32.zero
          x1 := F32.zero, x2 := F32.zero, y1 := F32.zero, y2 := F32.zero }).returning .none)) ∧
    (f ≠ .bench → exec (.bqNew f) s = .refused .madeElsewhere) ∧
    (s.During (FilterRef.stage f .render) →
      (∀ b, s.biquad f = some b →
        (let y := ((((b.b0.mul x).add (b.b1.mul b.x1)).add (b.b2.mul b.x2)).sub (b.a1.mul b.y1)).sub (b.a2.mul b.y2)
         exec (.bqProcess f x) s =
           .next ((s.setBiquad f { b with x1 := x, x2 := b.x1, y1 := y, y2 := b.y1 }).returning (.sample y)))) ∧
      (s.biquad f = none → exec (.bqProcess f x) s = .refused .absentFilter))

/-! ## The one-pole -/

/-- OP_NEW, OP_SET_FREQUENCY and OP_PROCESS (R170 to R172).  OP_NEW makes the stand-alone filter, and stops by name on one of the
engine, which RESET alone makes (R320; log 6); on a filter of the engine OP_SET_FREQUENCY is executed inside a DRAIN and OP_PROCESS
inside a RENDER (log 19), and on a channel whose filter is a biquad they stop by name (log 20).  R170 and R171 speak of finite positive
rates; that the same pseudocode runs for every other rate is the model's (log 28). -/
def Obligations.OnePoleOperations : Prop :=
  ∀ (s : State) (r : FilterRef) (v : F32),
    (s.Configured →
      exec (.opNew .bench v) s = .next ((s.setOnePole .bench
        { fs := v, a0 := F32.ofBits 0x3F800000#32, b1 := F32.zero, state := F32.zero }).returning .none)) ∧
    (r ≠ .bench → exec (.opNew r v) s = .refused .madeElsewhere) ∧
    (s.During (FilterRef.stage r .drain) →
      (∀ f, s.onePole r = some f →
        (let b1 := s.par.num.exp
          (((Config.twoPi.mul (v.clamp F32.zero (f.fs.div (F32.ofBits 0x40000000#32)))).div f.fs).negate)
         exec (.opSetFrequency r v) s =
           .next ((s.setOnePole r { f with b1 := b1, a0 := (F32.ofBits 0x3F800000#32).sub b1 }).returning .none))) ∧
      (s.onePole r = none → exec (.opSetFrequency r v) s = .refused .absentFilter)) ∧
    (s.During (FilterRef.stage r .render) →
      (∀ f, s.onePole r = some f →
        (let y := (v.mul f.a0).add (f.state.mul f.b1)
         exec (.opProcess r v) s = .next ((s.setOnePole r { f with state := y }).returning (.sample y)))) ∧
      (s.onePole r = none → exec (.opProcess r v) s = .refused .absentFilter))

/-- The coefficients OP_SET_FREQUENCY leaves, whatever `NUM` is, at a sample rate from 1.0 to 192000.0 (R171): the argument of the exponential is in
`[-3.1415930, 0]`, and `0 <= b1 <= 1`, `0 <= a0 <= 1`; at `f = 0` the filter closes (`b1 = 1`, `a0 = +0`). -/
def Obligations.OnePoleCoefficientRange : Prop :=
  ∀ (n : Sys2Proof.Num) (o : OnePole) (v : F32), F32.le (F32.ofBits 0x3F800000#32) o.fs = true → F32.le o.fs (F32.ofBits 0x483B8000#32) = true →
    F32.le (F32.ofBits 0xC0490FDC#32) (opExponent o.fs v) = true ∧ F32.le (opExponent o.fs v) F32.zero = true ∧
    Within (opSetFrequency n o v).b1 F32.zero Config.one ∧ Within (opSetFrequency n o v).a0 F32.zero Config.one ∧
    (F32.lt F32.zero v = false → (opSetFrequency n o v).b1 = Config.one ∧ (opSetFrequency n o v).a0 = F32.zero)

/-! ## The allpass -/

/-- AP_NEW, AP_SET_GAIN, AP_SET_DURATION and AP_SET_DELAY (R180 to R183); lines of fewer than two words are refused (log 22), and so is
making again an allpass of the engine, whose lines are never resized after RESET (R65, C9; log 6).  On an allpass of the engine the three
others are executed inside a DRAIN (R320; log 19).  Any sample rate (log 28) runs the same pseudocode. -/
def Obligations.AllpassSetup : Prop :=
  ∀ (s : State) (r : ApRef),
    (∀ c sr, 2 ≤ c → s.Configured → ∃ t, exec (.apNew .bench c sr) s = .next t ∧
      t = (s.setAllpass .bench (t.allpass .bench)).returning .none ∧
      (t.allpass .bench).gain = s.par.apGainRst ∧ (t.allpass .bench).fs = sr ∧
      (∀ l ∈ [(t.allpass .bench).inLine, (t.allpass .bench).outLine],
        l.cap = c ∧ l.dur = c - 1 ∧ l.w = 0 ∧ l.r = 1 % c ∧ ∀ a, memRead l.buf a = F32.zero)) ∧
    (∀ c sr, 2 ≤ c → r ≠ .bench → exec (.apNew r c sr) s = .refused .madeElsewhere) ∧
    (∀ c sr, c < 2 → exec (.apNew r c sr) s = .refused .noCapacity) ∧
    (s.During (ApRef.stage r .drain) →
      (∀ g, exec (.apSetGain r g) s = .next
        ((s.setAllpass r { s.allpass r with
          gain := g.clamp s.par.stableMax.negate s.par.stableMax }).returning .none)) ∧
      (∀ d, exec (.apSetDuration r d) s = .next
        ((s.setAllpass r
          (let d' := max 1 (min d ((s.allpass r).inLine.cap - 1))
           { s.allpass r with
             inLine := dlSetDuration (s.allpass r).inLine d', outLine := dlSetDuration (s.allpass r).outLine d' })).returning
          .none)) ∧
      ∀ seconds, ∃ t, exec (.apSetDelay r seconds) s = .next t ∧
        exec (.apSetDuration r (seconds.mul (s.allpass r).fs).truncToNat) s = .next t)

/-- AP_PROCESS (R184): the input side written then read, the output side read then written, in the rule's order of operations;
every other word of the two lines, the gain and the sample rate stay.  On an allpass of the engine it is executed inside a RENDER (R320;
log 19). -/
def Obligations.AllpassProcessing : Prop :=
  ∀ (s : State) (r : ApRef) (x : F32), s.During (ApRef.stage r .render) → (s.allpass r).inLine.Wf → (s.allpass r).outLine.Wf →
    ∃ t y, exec (.apProcess r x) s = .next t ∧ t = (s.setAllpass r (t.allpass r)).returning (.sample y) ∧
      (let a := s.allpass r
       let b := t.allpass r
       let di := if a.inLine.r = a.inLine.w then x else memRead a.inLine.buf a.inLine.r
       let dd := memRead a.outLine.buf a.outLine.r
       y = ((a.gain.negate.mul x).add di).add (a.gain.mul dd) ∧ b.gain = a.gain ∧ b.fs = a.fs ∧
       (∀ p ∈ [(a.inLine, b.inLine, x), (a.outLine, b.outLine, y)],
         p.2.1 = { p.1 with buf := p.2.1.buf, w := (p.1.w + 1) % p.1.cap, r := (p.1.r + 1) % p.1.cap } ∧
         ∀ i, memRead p.2.1.buf i = if i = p.1.w then p.2.2 else memRead p.1.buf i))

/-- The difference equation of the allpass (R185): after AP_NEW and any run of AP_PROCESS, with durations and gains set in between,
call `n` returns `((-g) * x_n + x_(n-D)) + g * y_(n-D)`, for the gain and the duration in force, with `+0` before the start. -/
def Obligations.AllpassDifferenceEquation : Prop :=
  ∀ (k : Parameters) (c : Nat) (fs x : F32) (ops : List ApOp), 2 ≤ c →
    (let run := apRun k (apNew k c fs) ops
     let a := run.1
     let xs := run.2.1
     let ys := run.2.2
     let n := xs.length
     let d := a.inLine.dur
     ys.length = n ∧ a.outLine.dur = d ∧ 1 ≤ d ∧ d ≤ c - 1 ∧
     (apProcess a x).2 =
       ((a.gain.negate.mul x).add (if d ≤ n then xs.getD (n - d) F32.zero else F32.zero)).add
         (a.gain.mul (if d ≤ n then ys.getD (n - d) F32.zero else F32.zero)))

/-! ## The limiter -/

/-- SC_SET_HARDNESS, inside a DRAIN, writes `P[3]`, clamped, and SC_PROCESS, inside a RENDER, reads it and changes nothing (R195, R196,
R320; logs 19, 27). -/
def Obligations.SoftclipOperations : Prop :=
  ∀ (s : State) (x : F32),
    (s.Draining → exec (.scSetHardness x) s = .next
      { s with
        eng := { s.eng with
          p := { s.eng.p with hardness := x.clamp s.par.hardMin s.par.hardMax } }
        audioOut := .none }) ∧
    (s.Rendering → exec (.scProcess x) s = .next
      { s with audioOut := .sample ((s.par.num.tanh (x.mul s.eng.p.hardness)).div s.eng.p.hardness) })

/-- What the limiter guarantees at a hardness from 2^-10 to 1024.0, whatever `NUM` is (R197 a, b, c): bounded by `1.0 / P[3]` for every input but NaN; odd, where the
product is finite; non-decreasing. -/
def Obligations.SoftclipBoundedAndMonotone : Prop :=
  ∀ (n : Sys2Proof.Num) (h : F32), Within h (F32.ofBits 0x3A800000#32) (F32.ofBits 0x44800000#32) →
    (∀ x : F32, x.isNaN = false → F32.absLe (scProcess n h x) (Config.one.div h) = true ∧
      F32.absLe (scProcess n h x) (F32.ofBits 0x44800000#32) = true) ∧
    (∀ x : F32, (x.mul h).isFinite = true → scProcess n h x.negate = (scProcess n h x).negate) ∧
    (∀ x y : F32, F32.le x y = true → F32.le (scProcess n h x) (scProcess n h y) = true)

/-! ## Utils -/

/-- COPRIME, HADAMARD and MATVEC have no side effect (R205): each completes and changes nothing but what it returns; MATVEC sums a row
left to right (R212); HADAMARD of an order that is no power of two returns no matrix (R210). -/
def Obligations.UtilsArePure : Prop :=
  ∀ s : State, s.Configured →
    (∀ start factor count, exec (.coprime start factor count) s =
      .next { s with audioOut := .lengths (coprime start factor count) }) ∧
    (∀ n, exec (.hadamard n) s = .next { s with audioOut := .matrix (hadamard n) } ∧
      (hadamard n = none ↔ ¬ ∃ k, n = 2 ^ k)) ∧
    (∀ v m, ∃ w, exec (.matvec v m) s = .next { s with audioOut := .vector w } ∧
      ∀ i, w.get i =
        (((((m.get i).get 0).mul (v.get 0)).add (((m.get i).get 1).mul (v.get 1))).add
          (((m.get i).get 2).mul (v.get 2))).add (((m.get i).get 3).mul (v.get 3)))

/-- What COPRIME guarantees (R207): for a start of at least 2, a finite factor of at least 1 and candidates below `2^24`, the result
has the asked length, any two of its values are coprime, it is strictly increasing, and every value is at least `start`. -/
def Obligations.CoprimeGuarantees : Prop :=
  ∀ (start count : Nat) (factor : F32), 2 ≤ start → factor.isFinite = true → F32.le Config.one factor = true →
    (∀ k, k < count → coprimeCandidate factor start k < 16777216) →
    (coprime start factor count).length = count ∧
    (coprime start factor count).Pairwise (fun a b => Nat.gcd a b = 1) ∧
    (coprime start factor count).Pairwise (fun a b => a < b) ∧
    ∀ m ∈ coprime start factor count, start ≤ m

/-- Each value COPRIME accepts is the first number, from its candidate upward, that is coprime with every value accepted before it,
and the candidates run on their own (R206), for any start but 0. -/
def Obligations.CoprimeFirstAcceptable : Prop :=
  ∀ (start count k : Nat) (factor : F32), k < count → (∀ j, j < count → 1 ≤ coprimeCandidate factor start j) →
    (let acc := coprime start factor count
     let c := coprimeCandidate factor start k
     let m := acc.getD k 0
     c ≤ m ∧ (∀ a ∈ acc.take k, Nat.gcd m a = 1) ∧ ∀ n, c ≤ n → n < m → ∃ a ∈ acc.take k, Nat.gcd n a ≠ 1)

/-- The matrix HADAMARD returns for a power of two (R210, R211): `n` rows of `n` entries `+1` or `-1`, symmetric, with
`H * transpose(H) = n * I`; and the feedback matrix, `0.5 * HADAMARD(4)`, is orthogonal. -/
def Obligations.HadamardOrthogonal : Prop :=
  (∀ i j : Fin 4,
    ((List.finRange 4).map fun l => (((mixMatrix Parameters.table).get i).get l).toRat * (((mixMatrix Parameters.table).get j).get l).toRat).sum =
      if i = j then 1 else 0) ∧
  ∀ k : Nat, ∃ h, hadamard (2 ^ k) = some h ∧ h.length = 2 ^ k ∧ (∀ row ∈ h, row.length = 2 ^ k) ∧
    (∀ i j, i < 2 ^ k → j < 2 ^ k → (entry h i j = 1 ∨ entry h i j = -1) ∧ entry h i j = entry h j i) ∧
    ∀ i j, i < 2 ^ k → j < 2 ^ k →
      ((List.range (2 ^ k)).map fun l => entry h i l * entry h j l).sum = if i = j then (2 ^ k : Int) else 0

/-! ## Numerics -/

/-- `clamp` (R13): NaN and minus infinity become `lo`, plus infinity becomes `hi`, a value in range stays as it is, `-0` against a
bound of `+0` included, and the result is always in range and finite. -/
def Obligations.ClampIsTotal : Prop :=
  ∀ (v lo hi : F32), lo.isFinite = true → hi.isFinite = true → F32.le lo hi = true →
    Within (v.clamp lo hi) lo hi ∧ (v.clamp lo hi).isFinite = true ∧
    (F32.le lo v = false → v.clamp lo hi = lo) ∧
    (F32.lt hi v = true → v.clamp lo hi = hi) ∧
    (Within v lo hi → v.clamp lo hi = v) ∧
    F32.nan.clamp lo hi = lo ∧ (F32.inf true).clamp lo hi = lo ∧ (F32.inf false).clamp lo hi = hi ∧
    (F32.zeroOf true).clamp F32.zero Config.one = F32.zeroOf true

/-- The conversions (R7): `toF32` rounds to nearest, ties to even, and is exact below `2^24`; `truncToNat` is the whole part of a
value in range, 0 for a negative value, NaN and minus infinity, and `2^31 - 1` from `2^31` on. -/
def Obligations.ConversionsRound : Prop :=
  (∀ n : Nat, (F32.ofNat n).RoundsTo (n : ℝ)) ∧
  (∀ n : Nat, n < 16777216 → (F32.ofNat n).toRat = n ∧ (F32.ofNat n).truncToNat = n) ∧
  (∀ v : F32, v.isFinite = true → F32.le F32.zero v = true → F32.lt v (F32.ofBits 0x4F000000#32) = true →
    (v.truncToNat : ℚ) ≤ v.toRat ∧ v.toRat < v.truncToNat + 1) ∧
  (∀ v : F32, F32.le F32.zero v = false → v.truncToNat = 0) ∧
  (∀ v : F32, F32.le (F32.ofBits 0x4F000000#32) v = true → v.truncToNat = 2147483647)

/-- `+` and `-` are correctly rounded, and the sign of an exact zero is `+` unless both terms are `-0`; a NaN term gives NaN, infinities
of opposite effect cancel to NaN, and an infinite term gives that infinity otherwise (R5). -/
def Obligations.AdditionRounds : Prop :=
  (∀ a b : F32, a.isFinite = true → b.isFinite = true →
    (a.add b).RoundsTo ((a.toRat : ℝ) + (b.toRat : ℝ)) ∧
    (a.sub b).RoundsTo ((a.toRat : ℝ) - (b.toRat : ℝ)) ∧
    (a.toRat + b.toRat = 0 → a.add b = F32.zeroOf (a.sign && b.sign)) ∧
    (a.toRat - b.toRat = 0 → a.sub b = F32.zeroOf (a.sign && !b.sign))) ∧
  (∀ a : F32, F32.nan.add a = .nan ∧ a.add .nan = .nan ∧ F32.nan.sub a = .nan ∧ a.sub .nan = .nan) ∧
  (∀ (σ : Bool) (a : F32), a.isFinite = true →
    (F32.inf σ).add a = .inf σ ∧ a.add (.inf σ) = .inf σ ∧ (F32.inf σ).sub a = .inf σ ∧ a.sub (.inf σ) = .inf !σ) ∧
  (∀ σ τ : Bool,
    (F32.inf σ).add (.inf τ) = (if σ = τ then .inf σ else .nan) ∧
    (F32.inf σ).sub (.inf τ) = (if σ = τ then .nan else .inf σ))

/-- `*`, `/` and `sqrt` are correctly rounded; a product or quotient that is no NaN has the sign of its operands' signs; NaN comes from
a NaN operand, from zero times infinity, from zero by zero and infinity by infinity and from the root of a negative number; a nonzero
number divided by zero is an infinity, a finite number divided by an infinity a zero; the root of `-0` is `-0` (R5). -/
def Obligations.ProductsRound : Prop :=
  (∀ a b : F32, a.isFinite = true → b.isFinite = true →
    (a.mul b).RoundsTo ((a.toRat : ℝ) * (b.toRat : ℝ)) ∧ (a.mul b).sign = (a.sign != b.sign) ∧
    (b.toRat ≠ 0 → (a.div b).RoundsTo ((a.toRat : ℝ) / (b.toRat : ℝ)) ∧ (a.div b).sign = (a.sign != b.sign)) ∧
    (b.toRat = 0 → a.toRat ≠ 0 → a.div b = .inf (a.sign != b.sign)) ∧
    (b.toRat = 0 → a.toRat = 0 → a.div b = .nan) ∧
    (0 ≤ a.toRat → (a.sqrt).RoundsTo (Real.sqrt (a.toRat : ℝ))) ∧
    (a.toRat < 0 → a.sqrt = .nan)) ∧
  (∀ a : F32, F32.nan.mul a = .nan ∧ a.mul .nan = .nan ∧ F32.nan.div a = .nan ∧ a.div .nan = .nan) ∧
  (∀ (σ : Bool) (a : F32), a.isFinite = true →
    (F32.inf σ).mul a = (if a.toRat = 0 then .nan else .inf (σ != a.sign)) ∧
    a.mul (.inf σ) = (if a.toRat = 0 then .nan else .inf (a.sign != σ)) ∧
    (F32.inf σ).div a = .inf (σ != a.sign) ∧ a.div (.inf σ) = F32.zeroOf (a.sign != σ)) ∧
  (∀ σ τ : Bool, (F32.inf σ).mul (.inf τ) = .inf (σ != τ) ∧ (F32.inf σ).div (.inf τ) = .nan) ∧
  (∀ σ : Bool, (F32.zeroOf σ).sqrt = F32.zeroOf σ) ∧
  F32.nan.sqrt = .nan ∧ (F32.inf false).sqrt = .inf false ∧ (F32.inf true).sqrt = .nan

/-! ## Status results and conditions -/

/-- The status results on the wire (R98) and the four conditions (R302 to R306): RESET answers 0 exactly when RESET_FAIL is met, ENQ 0
exactly when QUEUE_FULL is, DEQ's valid bit is 0 exactly when the queue looks empty, no other operation of the audio agent answers a
status; a clamp changes its argument exactly when CFG_RANGE is met, a duration exactly when CAP_RANGE is; the codes are 1 to 4.  The
results stand where log 5 puts them. -/
def Obligations.StatusAndConditions : Prop :=
  (∀ (s : State) (sr : F32), s.par.Legal → (s.seq = .unconfigured ∨ s.seq = .idle) →
    (resetFailMet s.par sr = true ↔
      sr.isNaN = true ∨ F32.lt sr s.par.srMin = true ∨ F32.lt s.par.srMax sr = true ∨
        s.par.lineMemWords < (s.par.maxDelaySeconds.mul sr).truncToNat + 1) ∧
    ∃ t, exec (.reset sr) s = .next t ∧
      t.cfgOut.statusBit = some (if resetFailMet s.par sr then 0#1 else 1#1) ∧ t.cfgOk = !resetFailMet s.par sr) ∧
  (∀ (s : State) (w : MsgWord), s.cfgOk = true →
    (queueFullMet s = true ↔ s.queue.tail - s.queue.headSync = s.par.queueCapacity) ∧
    ∃ t, exec (.enq w) s = .next t ∧ t.ctrlOut.statusBit = some (if queueFullMet s then 0#1 else 1#1) ∧
      (queueFullMet s = true → t.queue = s.queue)) ∧
  (∀ s : State, s.Between → ∃ t, exec .deq s = .next t ∧
    t.audioOut.statusBit = some (if s.queue.tailSync = s.queue.head then 0#1 else 1#1)) ∧
  (∀ (i : Instr) (s t : State), i.agent = .audio → i ≠ .deq → exec i s = .next t → t.audioOut.statusBit = none) ∧
  (∀ v lo hi : F32, lo.isFinite = true → hi.isFinite = true → F32.le lo hi = true →
    (cfgRangeMet v lo hi = true ↔ v.isNaN = true ∨ F32.lt v lo = true ∨ F32.lt hi v = true) ∧
    (v.clamp lo hi ≠ v ↔ cfgRangeMet v lo hi = true)) ∧
  (∀ (l : DelayLine) (d : Nat),
    ((dlSetDuration l d).dur ≠ d ↔ capRangeMet l d = true) ∧
    (capRangeMet l d = true → (dlSetDuration l d).dur = l.cap - 1)) ∧
  [Condition.cfgRange, .capRange, .queueFull, .resetFail].map Condition.code = [1, 2, 3, 4]

/-! ## Invariants and whole-machine rules -/

/-- The state right after reset meets both invariants (R22, R26, R28, R30, R33, R36, R37).  That state is a RESET's at 48000.0 Hz (log 1)
with R3's table and its `DAMPING_KIND` `ONEPOLE` (logs 7, 26), and it holds stand-alone components, of whose lines, gain
and pairing the invariants speak too (log 6). -/
def Obligations.ResetMeetsInvariants : Prop :=
  WholeInv State.reset

/-- Every step keeps both invariants: parameters the block can be built with, the latch, the legal ranges of the parameter registers,
the constant matrix, the configured kind of filter, stable gains, `Q` slots, `QINV`, copies equal under `ZERO`, and lines of the latched
capacity, never resized, whose indices are in range and whose memories are canonical; and lines that lag by their durations, and
allpasses whose two lines have one duration of at least 1 (R3, R22, R26, R28, R30, R33, R36, R61, R65, R126).  Of the stand-alone
components (log 6) it speaks of lines in range, a stable gain, and the allpass's two lines lagging and paired. -/
def Obligations.StepKeepsInvariant : Prop :=
  (∀ s t : State, WholeInv s → step s = .next t → WholeInv t) ∧
  ∀ s t : State, Inv s → step s = .next t → Inv t

/-- Every operation keeps the first invariant, inside a command too, and every operation but one half of a pair (a DL_WRITE or DL_READ
without the other, a DL_SET_DURATION of one line of an allpass; logs 6, 19) keeps the lines lagging by their durations, and each
allpass's lines paired (R30, R33, R126). -/
def Obligations.WholeOperationsKeepLag : Prop :=
  (∀ (i : Instr) (s t : State), Inv s → exec i s = .next t → Inv t) ∧
  ∀ (i : Instr) (s t : State), i.halfOfPair = false → WholeInv s → exec i s = .next t → WholeInv t

/-- Every operation completes at its stage: a transaction in IDLE, what sets the engine inside a DRAIN (R257; log 27), what computes a
sample on it inside a RENDER (R242; logs 19, 24), what belongs to the stand-alone allpass wherever the block is configured (log 19); any
agent's, with any well-formed operands, if its filter is of the kind that was built (log 20), if a component it makes is the stand-alone
one (R65, R320; log 6), and for a SYNC step if its copy is behind (R95, R301).  That every filter, whatever its channel, has an operation
of its own is logs 12 and 19, a message as an operation log 14; HADAMARD of an order that is no power of two completes with no matrix
(R301 and R210 call that the one refusal; log 18), and operands outside a stated domain run the same pseudocode (log 28). -/
def Obligations.EveryOperationCompletes : Prop :=
  ∀ (i : Instr) (s : State), (if stage i = .command then s.Idle else s.During (stage i)) → i.wellFormed = true →
    (∀ f, i.needsFilter = some (f, .biquad) → (s.biquad f).isSome = true) →
    (∀ f, i.needsFilter = some (f, .onePole) → (s.onePole f).isSome = true) →
    (∀ l c, i = .dlNew l c → l = .bench) → (∀ a c sr, i = .apNew a c sr → a = .bench) →
    (∀ b, i = .bqNew b → b = .bench) → (∀ f sr, i = .opNew f sr → f = .bench) →
    (i = .syncFwd → s.par.cdcLag = .arbitrary ∧ s.queue.tailSync < s.queue.tail) →
    (i = .syncBack → s.par.cdcLag = .arbitrary ∧ s.queue.headSync < s.queue.head) →
    ∃ t, exec i s = .next t

/-- Who may write what (R21, R320): the control and the CDC agent touch only the queue, the control agent nothing the audio agent
owns and the CDC agent only the copies; the audio agent never writes a slot, `q_tail` or, under `ARBITRARY`, a copy; no agent
writes the configuration.  And where: an operation of the audio agent is executed at its stage, one on a component of the engine inside a
DRAIN or a RENDER alone (R320; logs 19, 24, 27). -/
def Obligations.AgentsKeepToTheirState : Prop :=
  ∀ (i : Instr) (s t : State), exec i s = .next t →
    t.par = s.par ∧ t.pending = s.pending ∧ (i.agent = .audio → s.During (stage i)) ∧
    (i.agent = .control ∨ i.agent = .cdc →
      t.eng = s.eng ∧ t.bench = s.bench ∧ t.seq = s.seq ∧ t.cfgOk = s.cfgOk ∧ t.audioOut = s.audioOut ∧
      t.queue.head = s.queue.head) ∧
    (i.agent = .control → t.queue.headSync = s.queue.headSync) ∧
    (i.agent = .cdc → t.queue.slot = s.queue.slot ∧ t.queue.tail = s.queue.tail ∧ t.ctrlOut = s.ctrlOut) ∧
    (i.agent = .audio →
      t.queue.slot = s.queue.slot ∧ t.queue.tail = s.queue.tail ∧ t.queue.tailSync = s.queue.tailSync ∧
      (s.par.cdcLag = .arbitrary → t.queue.headSync = s.queue.headSync) ∧ t.ctrlOut = s.ctrlOut ∧ t.cfgOut = s.cfgOut) ∧
    (i.agent ≠ .host → t.cfgOk = s.cfgOk ∧ t.eng.fs = s.eng.fs ∧ t.eng.cap = s.eng.cap ∧ t.eng.fbm = s.eng.fbm)

/-- Only the operations a rule names write each kind of register (R25, R26, R27, R35): the parameter registers, `len`, `fb`, and the
words and write indices of the sample memories. -/
def Obligations.OnlyNamedOperationsWrite : Prop :=
  ∀ (i : Instr) (s t : State), exec i s = .next t →
    (i.mayWriteParams = false → t.eng.p = s.eng.p) ∧
    (i.mayWriteLengths = false → t.eng.len = s.eng.len) ∧
    (i.computesSamples = false → i.agent ≠ .host → t.eng.fb = s.eng.fb) ∧
    (i.mayWriteSamples = false → ∀ l : LineRef, (t.line l).buf = (s.line l).buf ∧ (t.line l).w = (s.line l).w)
end

