-- ==== Sys2Proof/Laws/Memory.lean ====
section
/-!
SUPPORT. The two kinds of memory: a read after a write, a write leaves every other place alone, every operation keeps the
canonical form, and equal reads are equal memories.
-/

namespace Sys2Proof.Machine

theorem memOk_cons {lo hi a : Nat} {v : F32} {m : SampleMem} :
    memOk lo hi ((a, v) :: m) = true ↔ lo ≤ a ∧ a < hi ∧ v ≠ F32.zero ∧ memOk (a + 1) hi m = true := by
  simp [memOk, and_assoc]

theorem memRead_cons (m : SampleMem) (a b : Nat) (v : F32) :
    memRead ((b, v) :: m) a = if a = b then v else memRead m a := rfl

theorem memOk_mono {lo lo' hi : Nat} {m : SampleMem} (h : lo' ≤ lo) (hm : memOk lo hi m = true) : memOk lo' hi m = true := by
  cases m with
  | nil => rfl
  | cons p m =>
    obtain ⟨a, v⟩ := p
    rw [memOk_cons] at hm ⊢
    exact ⟨by omega, hm.2⟩

/-- An index below the listed ones reads as `+0`. -/
theorem memRead_below {lo hi a : Nat} {m : SampleMem} (hm : memOk lo hi m = true) (h : a < lo) : memRead m a = F32.zero := by
  induction m generalizing lo with
  | nil => rfl
  | cons p m ih =>
    obtain ⟨b, v⟩ := p
    rw [memOk_cons] at hm
    rw [memRead, if_neg (by omega)]
    exact ih hm.2.2.2 (by omega)

theorem memRead_memCons {lo hi a b : Nat} {v : F32} {m : SampleMem} (hm : memOk lo hi m = true) (h : a < lo) :
    memRead (memCons a v m) b = if b = a then v else memRead m b := by
  unfold memCons
  split
  · subst_vars
    split
    · subst_vars; exact memRead_below hm h
    · rfl
  · rfl

theorem memOk_memCons {lo hi a : Nat} {v : F32} {m : SampleMem} (hm : memOk (a + 1) hi m = true) (hl : lo ≤ a) (hh : a < hi) :
    memOk lo hi (memCons a v m) = true := by
  unfold memCons
  split
  · exact memOk_mono (by omega) hm
  · exact memOk_cons.mpr ⟨hl, hh, ‹_›, hm⟩

/-- Everything a read sees after a write. -/
theorem memRead_memWrite {lo hi a b : Nat} {v : F32} {m : SampleMem} (hm : memOk lo hi m = true) :
    memRead (memWrite m a v) b = if b = a then v else memRead m b := by
  induction m generalizing lo with
  | nil => exact memRead_memCons (lo := a + 1) (hi := hi) rfl (by omega)
  | cons p m ih =>
    obtain ⟨c, u⟩ := p
    have hc := memOk_cons.mp hm
    unfold memWrite
    split
    · exact memRead_memCons (lo := c) (memOk_cons.mpr ⟨le_refl c, hc.2⟩) ‹_›
    · split
      · subst_vars
        rw [memRead_memCons hc.2.2.2 (by omega)]
        split
        · rfl
        · rw [memRead, if_neg ‹_›]
      · rw [memRead, ih hc.2.2.2, memRead]
        split
        · split
          · omega
          · rfl
        · rfl

/-- A write below the capacity keeps the canonical form. -/
theorem memOk_memWrite {lo hi a : Nat} {v : F32} {m : SampleMem} (hm : memOk lo hi m = true) (hl : lo ≤ a) (hh : a < hi) :
    memOk lo hi (memWrite m a v) = true := by
  induction m generalizing lo with
  | nil => exact memOk_memCons rfl hl hh
  | cons p m ih =>
    obtain ⟨c, u⟩ := p
    have hc := memOk_cons.mp hm
    unfold memWrite
    split
    · exact memOk_memCons (memOk_cons.mpr ⟨by omega, hc.2⟩) hl hh
    · split
      · subst_vars
        exact memOk_memCons hc.2.2.2 hl hh
      · exact memOk_cons.mpr ⟨hc.1, hc.2.1, hc.2.2.1, ih hc.2.2.2 (by omega)⟩

theorem memory_read_after_write {cap a : Nat} {v : F32} {m : SampleMem} (hm : Memory.wf cap m = true) :
    memRead (memWrite m a v) a = v := by
  rw [memRead_memWrite hm, if_pos rfl]

theorem memory_write_elsewhere {cap a b : Nat} {v : F32} {m : SampleMem} (hm : Memory.wf cap m = true) (h : b ≠ a) :
    memRead (memWrite m a v) b = memRead m b := by
  rw [memRead_memWrite hm, if_neg h]

theorem memory_write_wf {cap a : Nat} {v : F32} {m : SampleMem} (hm : Memory.wf cap m = true) (h : a < cap) :
    Memory.wf cap (memWrite m a v) = true :=
  memOk_memWrite hm (Nat.zero_le a) h

@[simp] theorem memory_empty_wf (cap : Nat) : Memory.wf cap [] = true := rfl

@[simp] theorem memRead_empty (a : Nat) : memRead [] a = F32.zero := rfl

/-- Two canonical memories that read the same are the same. -/
theorem memory_ext {lo hi : Nat} {m n : SampleMem} (hm : memOk lo hi m = true) (hn : memOk lo hi n = true)
    (h : ∀ a, memRead m a = memRead n a) : m = n := by
  induction m generalizing lo n with
  | nil =>
    cases n with
    | nil => rfl
    | cons q n =>
      obtain ⟨b, v⟩ := q
      have hb := h b
      rw [memRead_cons, if_pos rfl] at hb
      exact absurd hb.symm (memOk_cons.mp hn).2.2.1
  | cons p m ih =>
    obtain ⟨a, u⟩ := p
    have ha := memOk_cons.mp hm
    cases n with
    | nil =>
      have hb := h a
      rw [memRead_cons, if_pos rfl] at hb
      exact absurd hb ha.2.2.1
    | cons q n =>
      obtain ⟨b, v⟩ := q
      have hb := memOk_cons.mp hn
      have hab : a = b := by
        rcases Nat.lt_trichotomy a b with hlt | heq | hgt
        · have := h a
          rw [memRead_cons, if_pos rfl, memRead_cons, if_neg (by omega), memRead_below hb.2.2.2 (by omega)] at this
          exact absurd this ha.2.2.1
        · exact heq
        · have := h b
          rw [memRead_cons, if_neg (by omega), memRead_below ha.2.2.2 (by omega), memRead_cons, if_pos rfl] at this
          exact absurd this.symm hb.2.2.1
      subst hab
      have huv : u = v := by
        have := h a
        rwa [memRead_cons, if_pos rfl, memRead_cons, if_pos rfl] at this
      subst huv
      congr 1
      refine ih ha.2.2.2 hb.2.2.2 fun c => ?_
      by_cases hc : c = a
      · subst hc
        rw [memRead_below ha.2.2.2 (by omega), memRead_below hb.2.2.2 (by omega)]
      · have := h c
        rwa [memRead_cons, if_neg hc, memRead_cons, if_neg hc] at this

/-- Everything a slot read sees after a slot write, in a message memory of `q` words. -/
theorem slotRead_slotWrite {q : Nat} {m : Slots} (hq : 0 < q) (hm : m.length = q) (j n : Nat) (w : MsgWord) :
    slotRead q (slotWrite q m n w) j = if j % q = n % q then w else slotRead q m j := by
  have hn : n % q < m.length := by rw [hm]; exact Nat.mod_lt n hq
  simp only [slotRead, slotWrite, List.getD_eq_getElem?_getD, List.getElem?_set]
  by_cases h : n % q = j % q
  · simp [h, h ▸ hn]
  · simp [h, Ne.symm h]

theorem slotRead_slotWrite_same {q : Nat} {m : Slots} (hq : 0 < q) (hm : m.length = q) (n : Nat) (w : MsgWord) :
    slotRead q (slotWrite q m n w) n = w := by
  rw [slotRead_slotWrite hq hm, if_pos rfl]

@[simp] theorem slotWrite_length (q : Nat) (m : Slots) (n : Nat) (w : MsgWord) : (slotWrite q m n w).length = m.length := by
  simp [slotWrite]

end Sys2Proof.Machine
end

