-- ==== Sys2Proof/Laws/DelayLine.lean ====
section
/-!
SUPPORT. The DelayLine operations keep the ranges of the registers and the canonical form; where `LAG` holds
(`40_delayline.md` R120 to R126).
-/

namespace Sys2Proof.Machine

theorem lagged_lt {w cap dur : Nat} (h : 1 ≤ cap) : lagged w cap dur < cap := Nat.mod_lt _ h

theorem advance_lt {i cap : Nat} (h : 1 ≤ cap) : advance i cap < cap := Nat.mod_lt _ h

theorem dlNew_wf {c : Nat} (h : 1 ≤ c) : (dlNew c).Wf :=
  ⟨h, le_refl _, h, lagged_lt h, rfl⟩

theorem dlNew_lag (c : Nat) : (dlNew c).Lag := rfl

theorem dlSetDuration_wf {l : DelayLine} (d : Nat) (h : l.Wf) : (dlSetDuration l d).Wf :=
  ⟨h.1, Nat.min_le_right _ _, h.2.2.1, lagged_lt h.1, h.2.2.2.2⟩

theorem dlSetDuration_lag (l : DelayLine) (d : Nat) : (dlSetDuration l d).Lag := rfl

theorem dlWrite_wf {l : DelayLine} (x : F32) (h : l.Wf) : (dlWrite l x).Wf :=
  ⟨h.1, h.2.1, advance_lt h.1, h.2.2.2.1, memory_write_wf h.2.2.2.2 h.2.2.1⟩

theorem dlRead_wf {l : DelayLine} (h : l.Wf) : (dlRead l).1.Wf :=
  ⟨h.1, h.2.1, h.2.2.1, advance_lt h.1, h.2.2.2.2⟩

theorem dlProcess_wf {l : DelayLine} (x : F32) (h : l.Wf) : (dlProcess l x).1.Wf := dlRead_wf (dlWrite_wf x h)

theorem lagged_advance {w cap dur : Nat} (hc : 1 ≤ cap) (hd : dur ≤ cap - 1) :
    lagged (advance w cap) cap dur = advance (lagged w cap dur) cap := by
  simp only [lagged, advance]
  have h1 : (w + 1) % cap + cap - dur = (w + 1) % cap + (cap - dur) := by omega
  have h2 : w + cap - dur = w + (cap - dur) := by omega
  rw [h1, h2, Nat.mod_add_mod, Nat.mod_add_mod]
  congr 1
  omega

theorem dlProcess_lag {l : DelayLine} (x : F32) (h : l.Wf) (hl : l.Lag) : (dlProcess l x).1.Lag := by
  show advance l.r l.cap = lagged (advance l.w l.cap) l.cap l.dur
  rw [lagged_advance h.1 h.2.1, ← hl]

/-- The other order, a read then a write, restores `LAG` too. -/
theorem dlReadWrite_lag {l : DelayLine} (x : F32) (h : l.Wf) (hl : l.Lag) : (dlWrite (dlRead l).1 x).Lag := by
  show advance l.r l.cap = lagged (advance l.w l.cap) l.cap l.dur
  rw [lagged_advance h.1 h.2.1, ← hl]

end Sys2Proof.Machine
end

