-- ==== Sys2Proof/Laws/State.lean ====
section
/-!
SUPPORT. One small law per field and per named update of the state, and the laws of the four-element file, so that no proof
unfolds a record update.
-/

namespace Sys2Proof

@[simp] theorem Quad.get_build {α : Type} (f : Fin 4 → α) (i : Fin 4) : (Quad.build f).get i = f i := by
  revert i; intro i; match i with | 0 => rfl | 1 => rfl | 2 => rfl | 3 => rfl

@[simp] theorem Quad.get_map {α β : Type} (f : α → β) (q : Quad α) (i : Fin 4) : (q.map f).get i = f (q.get i) := by
  match i with | 0 => rfl | 1 => rfl | 2 => rfl | 3 => rfl

@[simp] theorem Quad.get_set_same {α : Type} (q : Quad α) (i : Fin 4) (x : α) : (q.set i x).get i = x := by
  match i with | 0 => rfl | 1 => rfl | 2 => rfl | 3 => rfl

theorem Quad.get_set_ne {α : Type} (q : Quad α) {i j : Fin 4} (h : j ≠ i) (x : α) : (q.set i x).get j = q.get j := by
  match i, j with
  | 0, 0 | 1, 1 | 2, 2 | 3, 3 => exact absurd rfl h
  | 0, 1 | 0, 2 | 0, 3 | 1, 0 | 1, 2 | 1, 3 | 2, 0 | 2, 1 | 2, 3 | 3, 0 | 3, 1 | 3, 2 => rfl

theorem Quad.get_set {α : Type} (q : Quad α) (i j : Fin 4) (x : α) :
    (q.set i x).get j = if j = i then x else q.get j := by
  split
  · subst_vars; exact Quad.get_set_same q _ x
  · exact Quad.get_set_ne q ‹_› x

@[simp] theorem Quad.set_get {α : Type} (q : Quad α) (i : Fin 4) : q.set i (q.get i) = q := by
  match i with | 0 => rfl | 1 => rfl | 2 => rfl | 3 => rfl

@[simp] theorem Quad.set_set {α : Type} (q : Quad α) (i : Fin 4) (x y : α) : (q.set i x).set i y = q.set i y := by
  match i with | 0 => rfl | 1 => rfl | 2 => rfl | 3 => rfl

theorem Quad.ext_get {α : Type} {p q : Quad α} (h : ∀ i, p.get i = q.get i) : p = q := by
  cases p; cases q
  have h0 := h 0; have h1 := h 1; have h2 := h 2; have h3 := h 3
  simp only [Quad.get] at h0 h1 h2 h3
  simp [h0, h1, h2, h3]

namespace Machine

@[simp] theorem State.returning_cfgOk (s : State) (r : Result) : (s.returning r).cfgOk = s.cfgOk := rfl
@[simp] theorem State.returning_seq (s : State) (r : Result) : (s.returning r).seq = s.seq := rfl
@[simp] theorem State.returning_eng (s : State) (r : Result) : (s.returning r).eng = s.eng := rfl
@[simp] theorem State.returning_queue (s : State) (r : Result) : (s.returning r).queue = s.queue := rfl
@[simp] theorem State.returning_par (s : State) (r : Result) : (s.returning r).par = s.par := rfl
@[simp] theorem State.returning_bench (s : State) (r : Result) : (s.returning r).bench = s.bench := rfl
@[simp] theorem State.returning_pending (s : State) (r : Result) : (s.returning r).pending = s.pending := rfl
@[simp] theorem State.returning_cfgOut (s : State) (r : Result) : (s.returning r).cfgOut = s.cfgOut := rfl
@[simp] theorem State.returning_ctrlOut (s : State) (r : Result) : (s.returning r).ctrlOut = s.ctrlOut := rfl
@[simp] theorem State.returning_freeCount (s : State) (r : Result) : (s.returning r).freeCount = s.freeCount := rfl
@[simp] theorem State.returning_audioOut (s : State) (r : Result) : (s.returning r).audioOut = r := rfl
@[simp] theorem State.returning_returning (s : State) (q r : Result) : (s.returning q).returning r = s.returning r := rfl

@[simp] theorem State.setLine_cfgOk (s : State) (l : LineRef) (d : DelayLine) : (s.setLine l d).cfgOk = s.cfgOk := by cases l <;> rfl
@[simp] theorem State.setLine_seq (s : State) (l : LineRef) (d : DelayLine) : (s.setLine l d).seq = s.seq := by cases l <;> rfl
@[simp] theorem State.setLine_queue (s : State) (l : LineRef) (d : DelayLine) : (s.setLine l d).queue = s.queue := by cases l <;> rfl
@[simp] theorem State.setLine_par (s : State) (l : LineRef) (d : DelayLine) : (s.setLine l d).par = s.par := by cases l <;> rfl
@[simp] theorem State.setLine_pending (s : State) (l : LineRef) (d : DelayLine) : (s.setLine l d).pending = s.pending := by cases l <;> rfl
@[simp] theorem State.setLine_cfgOut (s : State) (l : LineRef) (d : DelayLine) : (s.setLine l d).cfgOut = s.cfgOut := by cases l <;> rfl
@[simp] theorem State.setLine_ctrlOut (s : State) (l : LineRef) (d : DelayLine) : (s.setLine l d).ctrlOut = s.ctrlOut := by cases l <;> rfl
@[simp] theorem State.setLine_audioOut (s : State) (l : LineRef) (d : DelayLine) : (s.setLine l d).audioOut = s.audioOut := by cases l <;> rfl
@[simp] theorem State.setLine_freeCount (s : State) (l : LineRef) (d : DelayLine) : (s.setLine l d).freeCount = s.freeCount := by cases l <;> rfl
@[simp] theorem State.setLine_eng_fs (s : State) (l : LineRef) (d : DelayLine) : (s.setLine l d).eng.fs = s.eng.fs := by cases l <;> rfl
@[simp] theorem State.setLine_eng_cap (s : State) (l : LineRef) (d : DelayLine) : (s.setLine l d).eng.cap = s.eng.cap := by cases l <;> rfl
@[simp] theorem State.setLine_eng_p (s : State) (l : LineRef) (d : DelayLine) : (s.setLine l d).eng.p = s.eng.p := by cases l <;> rfl
@[simp] theorem State.setLine_eng_len (s : State) (l : LineRef) (d : DelayLine) : (s.setLine l d).eng.len = s.eng.len := by cases l <;> rfl
@[simp] theorem State.setLine_eng_fb (s : State) (l : LineRef) (d : DelayLine) : (s.setLine l d).eng.fb = s.eng.fb := by cases l <;> rfl
@[simp] theorem State.setLine_eng_fbm (s : State) (l : LineRef) (d : DelayLine) : (s.setLine l d).eng.fbm = s.eng.fbm := by cases l <;> rfl
@[simp] theorem State.setLine_eng_damp (s : State) (l : LineRef) (d : DelayLine) : (s.setLine l d).eng.damp = s.eng.damp := by cases l <;> rfl

@[simp] theorem State.setAllpass_cfgOk (s : State) (l : ApRef) (d : Allpass) : (s.setAllpass l d).cfgOk = s.cfgOk := by cases l <;> rfl
@[simp] theorem State.setAllpass_seq (s : State) (l : ApRef) (d : Allpass) : (s.setAllpass l d).seq = s.seq := by cases l <;> rfl
@[simp] theorem State.setAllpass_queue (s : State) (l : ApRef) (d : Allpass) : (s.setAllpass l d).queue = s.queue := by cases l <;> rfl
@[simp] theorem State.setAllpass_par (s : State) (l : ApRef) (d : Allpass) : (s.setAllpass l d).par = s.par := by cases l <;> rfl
@[simp] theorem State.setAllpass_pending (s : State) (l : ApRef) (d : Allpass) : (s.setAllpass l d).pending = s.pending := by cases l <;> rfl
@[simp] theorem State.setAllpass_cfgOut (s : State) (l : ApRef) (d : Allpass) : (s.setAllpass l d).cfgOut = s.cfgOut := by cases l <;> rfl
@[simp] theorem State.setAllpass_ctrlOut (s : State) (l : ApRef) (d : Allpass) : (s.setAllpass l d).ctrlOut = s.ctrlOut := by cases l <;> rfl
@[simp] theorem State.setAllpass_audioOut (s : State) (l : ApRef) (d : Allpass) : (s.setAllpass l d).audioOut = s.audioOut := by cases l <;> rfl
@[simp] theorem State.setAllpass_freeCount (s : State) (l : ApRef) (d : Allpass) : (s.setAllpass l d).freeCount = s.freeCount := by cases l <;> rfl
@[simp] theorem State.setAllpass_eng_fs (s : State) (l : ApRef) (d : Allpass) : (s.setAllpass l d).eng.fs = s.eng.fs := by cases l <;> rfl
@[simp] theorem State.setAllpass_eng_cap (s : State) (l : ApRef) (d : Allpass) : (s.setAllpass l d).eng.cap = s.eng.cap := by cases l <;> rfl
@[simp] theorem State.setAllpass_eng_p (s : State) (l : ApRef) (d : Allpass) : (s.setAllpass l d).eng.p = s.eng.p := by cases l <;> rfl
@[simp] theorem State.setAllpass_eng_len (s : State) (l : ApRef) (d : Allpass) : (s.setAllpass l d).eng.len = s.eng.len := by cases l <;> rfl
@[simp] theorem State.setAllpass_eng_fb (s : State) (l : ApRef) (d : Allpass) : (s.setAllpass l d).eng.fb = s.eng.fb := by cases l <;> rfl
@[simp] theorem State.setAllpass_eng_fbm (s : State) (l : ApRef) (d : Allpass) : (s.setAllpass l d).eng.fbm = s.eng.fbm := by cases l <;> rfl
@[simp] theorem State.setAllpass_eng_damp (s : State) (l : ApRef) (d : Allpass) : (s.setAllpass l d).eng.damp = s.eng.damp := by cases l <;> rfl
@[simp] theorem State.setAllpass_eng_dl (s : State) (l : ApRef) (d : Allpass) : (s.setAllpass l d).eng.dl = s.eng.dl := by cases l <;> rfl
@[simp] theorem State.setAllpass_eng_pre (s : State) (l : ApRef) (d : Allpass) : (s.setAllpass l d).eng.pre = s.eng.pre := by cases l <;> rfl

@[simp] theorem State.setBiquad_cfgOk (s : State) (l : FilterRef) (d : Biquad) : (s.setBiquad l d).cfgOk = s.cfgOk := by cases l <;> rfl
@[simp] theorem State.setBiquad_seq (s : State) (l : FilterRef) (d : Biquad) : (s.setBiquad l d).seq = s.seq := by cases l <;> rfl
@[simp] theorem State.setBiquad_queue (s : State) (l : FilterRef) (d : Biquad) : (s.setBiquad l d).queue = s.queue := by cases l <;> rfl
@[simp] theorem State.setBiquad_par (s : State) (l : FilterRef) (d : Biquad) : (s.setBiquad l d).par = s.par := by cases l <;> rfl
@[simp] theorem State.setBiquad_pending (s : State) (l : FilterRef) (d : Biquad) : (s.setBiquad l d).pending = s.pending := by cases l <;> rfl
@[simp] theorem State.setBiquad_cfgOut (s : State) (l : FilterRef) (d : Biquad) : (s.setBiquad l d).cfgOut = s.cfgOut := by cases l <;> rfl
@[simp] theorem State.setBiquad_ctrlOut (s : State) (l : FilterRef) (d : Biquad) : (s.setBiquad l d).ctrlOut = s.ctrlOut := by cases l <;> rfl
@[simp] theorem State.setBiquad_audioOut (s : State) (l : FilterRef) (d : Biquad) : (s.setBiquad l d).audioOut = s.audioOut := by cases l <;> rfl
@[simp] theorem State.setBiquad_freeCount (s : State) (l : FilterRef) (d : Biquad) : (s.setBiquad l d).freeCount = s.freeCount := by cases l <;> rfl
@[simp] theorem State.setBiquad_eng_fs (s : State) (l : FilterRef) (d : Biquad) : (s.setBiquad l d).eng.fs = s.eng.fs := by cases l <;> rfl
@[simp] theorem State.setBiquad_eng_cap (s : State) (l : FilterRef) (d : Biquad) : (s.setBiquad l d).eng.cap = s.eng.cap := by cases l <;> rfl
@[simp] theorem State.setBiquad_eng_p (s : State) (l : FilterRef) (d : Biquad) : (s.setBiquad l d).eng.p = s.eng.p := by cases l <;> rfl
@[simp] theorem State.setBiquad_eng_len (s : State) (l : FilterRef) (d : Biquad) : (s.setBiquad l d).eng.len = s.eng.len := by cases l <;> rfl
@[simp] theorem State.setBiquad_eng_fb (s : State) (l : FilterRef) (d : Biquad) : (s.setBiquad l d).eng.fb = s.eng.fb := by cases l <;> rfl
@[simp] theorem State.setBiquad_eng_fbm (s : State) (l : FilterRef) (d : Biquad) : (s.setBiquad l d).eng.fbm = s.eng.fbm := by cases l <;> rfl
@[simp] theorem State.setBiquad_eng_ap (s : State) (l : FilterRef) (d : Biquad) : (s.setBiquad l d).eng.ap = s.eng.ap := by cases l <;> rfl
@[simp] theorem State.setBiquad_eng_dl (s : State) (l : FilterRef) (d : Biquad) : (s.setBiquad l d).eng.dl = s.eng.dl := by cases l <;> rfl
@[simp] theorem State.setBiquad_eng_pre (s : State) (l : FilterRef) (d : Biquad) : (s.setBiquad l d).eng.pre = s.eng.pre := by cases l <;> rfl

@[simp] theorem State.setOnePole_cfgOk (s : State) (l : FilterRef) (d : OnePole) : (s.setOnePole l d).cfgOk = s.cfgOk := by cases l <;> rfl
@[simp] theorem State.setOnePole_seq (s : State) (l : FilterRef) (d : OnePole) : (s.setOnePole l d).seq = s.seq := by cases l <;> rfl
@[simp] theorem State.setOnePole_queue (s : State) (l : FilterRef) (d : OnePole) : (s.setOnePole l d).queue = s.queue := by cases l <;> rfl
@[simp] theorem State.setOnePole_par (s : State) (l : FilterRef) (d : OnePole) : (s.setOnePole l d).par = s.par := by cases l <;> rfl
@[simp] theorem State.setOnePole_pending (s : State) (l : FilterRef) (d : OnePole) : (s.setOnePole l d).pending = s.pending := by cases l <;> rfl
@[simp] theorem State.setOnePole_cfgOut (s : State) (l : FilterRef) (d : OnePole) : (s.setOnePole l d).cfgOut = s.cfgOut := by cases l <;> rfl
@[simp] theorem State.setOnePole_ctrlOut (s : State) (l : FilterRef) (d : OnePole) : (s.setOnePole l d).ctrlOut = s.ctrlOut := by cases l <;> rfl
@[simp] theorem State.setOnePole_audioOut (s : State) (l : FilterRef) (d : OnePole) : (s.setOnePole l d).audioOut = s.audioOut := by cases l <;> rfl
@[simp] theorem State.setOnePole_freeCount (s : State) (l : FilterRef) (d : OnePole) : (s.setOnePole l d).freeCount = s.freeCount := by cases l <;> rfl
@[simp] theorem State.setOnePole_eng_fs (s : State) (l : FilterRef) (d : OnePole) : (s.setOnePole l d).eng.fs = s.eng.fs := by cases l <;> rfl
@[simp] theorem State.setOnePole_eng_cap (s : State) (l : FilterRef) (d : OnePole) : (s.setOnePole l d).eng.cap = s.eng.cap := by cases l <;> rfl
@[simp] theorem State.setOnePole_eng_p (s : State) (l : FilterRef) (d : OnePole) : (s.setOnePole l d).eng.p = s.eng.p := by cases l <;> rfl
@[simp] theorem State.setOnePole_eng_len (s : State) (l : FilterRef) (d : OnePole) : (s.setOnePole l d).eng.len = s.eng.len := by cases l <;> rfl
@[simp] theorem State.setOnePole_eng_fb (s : State) (l : FilterRef) (d : OnePole) : (s.setOnePole l d).eng.fb = s.eng.fb := by cases l <;> rfl
@[simp] theorem State.setOnePole_eng_fbm (s : State) (l : FilterRef) (d : OnePole) : (s.setOnePole l d).eng.fbm = s.eng.fbm := by cases l <;> rfl
@[simp] theorem State.setOnePole_eng_ap (s : State) (l : FilterRef) (d : OnePole) : (s.setOnePole l d).eng.ap = s.eng.ap := by cases l <;> rfl
@[simp] theorem State.setOnePole_eng_dl (s : State) (l : FilterRef) (d : OnePole) : (s.setOnePole l d).eng.dl = s.eng.dl := by cases l <;> rfl
@[simp] theorem State.setOnePole_eng_pre (s : State) (l : FilterRef) (d : OnePole) : (s.setOnePole l d).eng.pre = s.eng.pre := by cases l <;> rfl

/-! The gate of a stage reads `cfgOk` and `seq` alone. -/

@[simp] theorem State.admits_returning (s : State) (r : Result) (g : Stage) : (s.returning r).admits g = s.admits g := rfl

@[simp] theorem State.admits_setLine (s : State) (l : LineRef) (d : DelayLine) (g : Stage) :
    (s.setLine l d).admits g = s.admits g := by
  cases l <;> rfl

@[simp] theorem State.admits_setAllpass (s : State) (l : ApRef) (d : Allpass) (g : Stage) :
    (s.setAllpass l d).admits g = s.admits g := by
  cases l <;> rfl

@[simp] theorem State.admits_setBiquad (s : State) (l : FilterRef) (d : Biquad) (g : Stage) :
    (s.setBiquad l d).admits g = s.admits g := by
  cases l <;> rfl

@[simp] theorem State.admits_setOnePole (s : State) (l : FilterRef) (d : OnePole) (g : Stage) :
    (s.setOnePole l d).admits g = s.admits g := by
  cases l <;> rfl

/-! The component an operand names, after a named update. -/

@[simp] theorem State.line_returning (s : State) (r : Result) (l : LineRef) : (s.returning r).line l = s.line l := by
  cases l <;> rfl

@[simp] theorem State.allpass_returning (s : State) (r : Result) (l : ApRef) : (s.returning r).allpass l = s.allpass l := by
  cases l <;> rfl

@[simp] theorem State.biquad_returning (s : State) (r : Result) (l : FilterRef) : (s.returning r).biquad l = s.biquad l := by
  cases l <;> rfl

@[simp] theorem State.onePole_returning (s : State) (r : Result) (l : FilterRef) : (s.returning r).onePole l = s.onePole l := by
  cases l <;> rfl

@[simp] theorem State.line_setLine_same (s : State) (l : LineRef) (d : DelayLine) : (s.setLine l d).line l = d := by
  cases l <;> simp [State.setLine, State.line]

@[simp] theorem State.allpass_setAllpass_same (s : State) (l : ApRef) (d : Allpass) : (s.setAllpass l d).allpass l = d := by
  cases l <;> simp [State.setAllpass, State.allpass]

@[simp] theorem State.biquad_setBiquad_same (s : State) (l : FilterRef) (d : Biquad) : (s.setBiquad l d).biquad l = some d := by
  cases l <;> simp [State.setBiquad, State.biquad]

@[simp] theorem State.onePole_setOnePole_same (s : State) (l : FilterRef) (d : OnePole) :
    (s.setOnePole l d).onePole l = some d := by
  cases l <;> simp [State.setOnePole, State.onePole]

@[simp] theorem State.setLine_setLine (s : State) (l : LineRef) (d e : DelayLine) :
    (s.setLine l d).setLine l e = s.setLine l e := by
  cases l <;> simp [State.setLine]

/-- Writing a line back changes nothing. -/
@[simp] theorem State.setLine_line (s : State) (l : LineRef) : s.setLine l (s.line l) = s := by
  match l with
  | .pre | .bench | .benchApIn | .benchApOut => rfl
  | .dl i =>
    show ({ s with eng := { s.eng with dl := s.eng.dl.set i (s.eng.dl.get i) } } : State) = s
    rw [Quad.set_get]
  | .apIn i | .apOut i =>
    show ({ s with eng := { s.eng with ap := s.eng.ap.set i (s.eng.ap.get i) } } : State) = s
    rw [Quad.set_get]

/-- The results an operation returns to do not depend on when the line is replaced. -/
theorem State.setLine_returning (s : State) (l : LineRef) (d : DelayLine) (r : Result) :
    (s.returning r).setLine l d = (s.setLine l d).returning r := by
  cases l <;> rfl

end Machine

end Sys2Proof
end

