-- ==== Sys2Proof/Laws/Ops.lean ====
section
/-!
SUPPORT. For each shared operation, once, everything it can do when it answers a next state; later proofs cite these and do
not unfold it.
-/

namespace Sys2Proof.Machine

theorem accepted_eq_next {ok : Bool} {s' t : State} : accepted ok s' = .next t ↔ ok = true ∧ t = s' := by
  cases ok <;> simp [accepted, eq_comm]

theorem accepted_of {ok : Bool} (h : ok = true) (s' : State) : accepted ok s' = .next s' := by rw [h]; rfl

theorem onSetter_eq_next {s t : State} {e : Engine} :
    onSetter s e = .next t ↔ s.admits .drain = true ∧ t = { s with eng := e, audioOut := .none } := accepted_eq_next

theorem onPure_eq_next {s t : State} {g : Stage} {r : Result} :
    onPure s g r = .next t ↔ s.admits g = true ∧ t = { s with audioOut := r } := accepted_eq_next

theorem onLine_eq_next {s t : State} {g : Stage} {l : LineRef} {f : DelayLine → DelayLine × Result} :
    onLine s g l f = .next t ↔
      s.admits (LineRef.stage l g) = true ∧ t = (s.setLine l (f (s.line l)).1).returning (f (s.line l)).2 := accepted_eq_next

theorem onAllpass_eq_next {s t : State} {g : Stage} {l : ApRef} {f : Allpass → Allpass × Result} :
    onAllpass s g l f = .next t ↔
      s.admits (ApRef.stage l g) = true ∧ t = (s.setAllpass l (f (s.allpass l)).1).returning (f (s.allpass l)).2 := accepted_eq_next

theorem onBiquad_eq_next {s t : State} {g : Stage} {r : FilterRef} {f : Biquad → Biquad × Result} :
    onBiquad s g r f = .next t ↔
      s.admits (FilterRef.stage r g) = true ∧ ∃ b, s.biquad r = some b ∧ t = (s.setBiquad r (f b).1).returning (f b).2 := by
  unfold onBiquad
  split
  · rename_i b hb; simp [accepted_eq_next, hb]
  · split <;> simp_all

theorem onOnePole_eq_next {s t : State} {g : Stage} {r : FilterRef} {f : OnePole → OnePole × Result} :
    onOnePole s g r f = .next t ↔
      s.admits (FilterRef.stage r g) = true ∧ ∃ o, s.onePole r = some o ∧ t = (s.setOnePole r (f o).1).returning (f o).2 := by
  unfold onOnePole
  split
  · rename_i b hb; simp [accepted_eq_next, hb]
  · split <;> simp_all

theorem onSync_eq_next {s t : State} {behind : Bool} {q : Queue} :
    onSync s behind q = .next t ↔
      s.cfgOk = true ∧ behind = true ∧ s.par.cdcLag = .arbitrary ∧ t = { s with queue := q } := by
  unfold onSync
  split
  · split
    · rename_i hc hb
      simp only [Bool.and_eq_true, decide_eq_true_eq] at hb
      constructor
      · rintro ⟨⟩; exact ⟨hc, hb.1, hb.2, rfl⟩
      · rintro ⟨-, -, -, rfl⟩; rfl
    · rename_i hc hb
      simp only [Bool.and_eq_true, decide_eq_true_eq] at hb
      exact ⟨nofun, fun h => absurd ⟨h.2.1, h.2.2.1⟩ hb⟩
  · rename_i hc
    exact ⟨nofun, fun h => absurd h.1 hc⟩

theorem isRendering_iff {q : Seq} : q.isRendering = true ↔ ∃ k, q = .rendering k := by cases q <;> simp [Seq.isRendering]

/-- The gate of a stage, in the terms the claims use. -/
theorem admits_iff {s : State} {g : Stage} : s.admits g = true ↔ s.During g := by
  cases g <;> cases h : s.seq <;>
    simp [State.admits, State.During, Seq.configured, Seq.isDraining, Seq.isRendering, h]

theorem canDequeue_iff {s : State} : s.canDequeue = true ↔ s.Between := by
  cases h : s.seq <;> simp [State.canDequeue, Seq.betweenBlocks, h]

theorem isIdle_iff {q : Seq} : q.isIdle = true ↔ q = .idle := by cases q <;> simp [Seq.isIdle]

theorem canReset_iff {q : Seq} : q.canReset = true ↔ q = .unconfigured ∨ q = .idle := by cases q <;> simp [Seq.canReset]

/-- A setter, a message or a helper is a step inside a DRAIN and nowhere else (`46_fdn_engine.md` R257). -/
theorem exec_setting {i : Instr} {s : State} (hc : i.onComponent = false) (h : stage i = .drain) :
    (∃ t, exec i s = .next t) ↔ s.Draining := by
  have key : ∀ e : Engine, (∃ t, onSetter s e = .next t) ↔ s.Draining := fun e =>
    ⟨fun ⟨_, ht⟩ => admits_iff.mp (onSetter_eq_next.mp ht).1, fun hd => ⟨_, onSetter_eq_next.mpr ⟨admits_iff.mpr hd, rfl⟩⟩⟩
  cases i <;> first | exact key _ | simp [stage, Instr.onComponent] at h hc

/-- Everything a port takes (`60_exceptions.md` R320). -/
theorem present_eq_next {i : Instr} {s t : State} : present i s = .next t ↔ stage i = .command ∧ exec i s = .next t := by
  cases h : stage i <;> simp [present, h]

/-- Everything a presented transaction can do. -/
theorem takeCommand_eq_next {c : Command} {s t : State} :
    takeCommand c s = .next t ↔ ∃ i, decodeCmd c = .ok i ∧ i.wellFormed = true ∧ stage i = .command ∧ exec i s = .next t := by
  unfold takeCommand
  split
  · rename_i h; simp [h]
  · rename_i i h
    cases hw : i.wellFormed <;> simp [h, hw, present_eq_next]

/-- Everything a step can do. -/
theorem step_eq_next {s t : State} :
    step s = .next t ↔
      (s.pending = [] ∧ t = s) ∨
      ∃ c rest, s.pending = c :: rest ∧ takeCommand c { s with pending := rest } = .next t := by
  unfold step
  cases h : s.pending <;> simp [eq_comm]

theorem execDlNew_eq_next {s t : State} {l : LineRef} {c : Nat} :
    execDlNew l c s = .next t ↔
      c ≠ 0 ∧ l = .bench ∧ s.admits .command = true ∧ t = (s.setLine .bench (dlNew c)).returning .none := by
  by_cases hc : c = 0 <;> cases l <;> simp [execDlNew, LineRef.remade, LineRef.stage, hc, onLine_eq_next]

theorem execBqNew_eq_next {s t : State} {b : FilterRef} :
    execBqNew b s = .next t ↔
      b = .bench ∧ s.admits .command = true ∧ t = (s.setBiquad .bench bqNew).returning .none := by
  cases b <;> simp [execBqNew, FilterRef.remade, FilterRef.stage, onBiquad_eq_next, State.biquad]

theorem execOpNew_eq_next {s t : State} {f : FilterRef} {sr : F32} :
    execOpNew f sr s = .next t ↔
      f = .bench ∧ s.admits .command = true ∧ t = (s.setOnePole .bench (opNew sr)).returning .none := by
  cases f <;> simp [execOpNew, FilterRef.remade, FilterRef.stage, onOnePole_eq_next, State.onePole]

theorem execApNew_eq_next {s t : State} {a : ApRef} {c : Nat} {sr : F32} :
    execApNew a c sr s = .next t ↔
      2 ≤ c ∧ a = .bench ∧ s.admits .command = true ∧ t = (s.setAllpass .bench (apNew s.par c sr)).returning .none := by
  have h2 : 2 ≤ c ↔ ¬ c < 2 := Nat.not_lt.symm
  by_cases hc : c < 2 <;> cases a <;> simp [execApNew, ApRef.remade, ApRef.stage, h2, hc, onAllpass_eq_next]

/-- What ENQ does to the queue when there is room (`47_parameter_channel.md` R271). -/
theorem enqueue_room {k : Parameters} {q : Queue} {w : MsgWord} (h : q.tail - q.headSync ≠ k.queueCapacity) :
    enqueue k q w =
      ({ q with slot := slotWrite k.queueCapacity q.slot q.tail w, tail := q.tail + 1, tailSync := syncCopy k.cdcLag (q.tail + 1) q.tailSync }, true) := by
  simp [enqueue, queueFull, h]

theorem enqueue_full {k : Parameters} {q : Queue} {w : MsgWord} (h : q.tail - q.headSync = k.queueCapacity) :
    enqueue k q w = (q, false) := by
  simp [enqueue, queueFull, h]

/-- What DEQ does to the queue when a message is visible (R272). -/
theorem dequeue_visible {k : Parameters} {q : Queue} (h : q.tailSync ≠ q.head) :
    dequeue k q =
      ({ q with head := q.head + 1, headSync := syncCopy k.cdcLag (q.head + 1) q.headSync }, some (slotRead k.queueCapacity q.slot q.head)) := by
  simp [dequeue, queueEmpty, h]

/-- The number of slots never changes. -/
theorem enqueue_slot_length (k : Parameters) (q : Queue) (w : MsgWord) : (enqueue k q w).1.slot.length = q.slot.length := by
  by_cases h : q.tail - q.headSync = k.queueCapacity <;> simp [enqueue, queueFull, h, slotWrite]

theorem dequeue_slot (k : Parameters) (q : Queue) : (dequeue k q).1.slot = q.slot := by
  by_cases h : q.tailSync = q.head <;> simp [dequeue, queueEmpty, h]

theorem dequeue_empty {k : Parameters} {q : Queue} (h : q.tailSync = q.head) : dequeue k q = (q, none) := by
  simp [dequeue, queueEmpty, h]

end Sys2Proof.Machine
end

