-- ==== Sys2Proof/Laws/Engine.lean ====
section
/-!
SUPPORT. What the helpers of the network leave: the eight lengths, the lines and allpasses they are applied to, the history of a
biquad whose coefficients change, the fields a sample does not write, and the queue a DRAIN leaves.
-/

namespace Sys2Proof.Machine

theorem coprimeLoop_length (factor : F32) (k c : Nat) (acc : List Nat) :
    (coprimeLoop factor k c acc).length = acc.length + k := by
  induction k generalizing c acc with
  | zero => rfl
  | succ k ih =>
    simp only [coprimeLoop]
    rw [ih, List.length_append, List.length_singleton]
    omega

theorem coprime_length (start : Nat) (factor : F32) (count : Nat) : (coprime start factor count).length = count := by
  rw [coprime, coprimeLoop_length, List.length_nil, Nat.zero_add]

theorem lengthFile_toList {ns : List Nat} (h : ns.length = 8) : (lengthFile ns).toList = ns := by
  match ns, h with
  | [_, _, _, _, _, _, _, _], _ => rfl

/-- REDERIVE_LENGTHS on channel `i` (`46_fdn_engine.md` R245). -/
theorem applyLengths_ap (e : Engine) (n : Oct Nat) (i : Fin 4) :
    (applyLengths e n).ap.get i = apSetDuration (e.ap.get i) (n.toList.getD i.val 0) := by
  match i with | 0 | 1 | 2 | 3 => rfl

theorem applyLengths_dl (e : Engine) (n : Oct Nat) (i : Fin 4) :
    (applyLengths e n).dl.get i = dlSetDuration (e.dl.get i) (n.toList.getD (4 + i.val) 0) := by
  match i with | 0 | 1 | 2 | 3 => rfl

/-- A line other than the one replaced stays. -/
theorem State.line_setLine_ne (s : State) {k l : LineRef} (h : k ≠ l) (d : DelayLine) : (s.setLine l d).line k = s.line k := by
  cases l <;> cases k <;> simp_all [State.setLine, State.line, Quad.get_set] <;> split <;> simp_all

theorem State.line_setBiquad (s : State) (r : FilterRef) (b : Biquad) (l : LineRef) : (s.setBiquad r b).line l = s.line l := by
  cases r <;> cases l <;> rfl

theorem State.line_setOnePole (s : State) (r : FilterRef) (o : OnePole) (l : LineRef) : (s.setOnePole r o).line l = s.line l := by
  cases r <;> cases l <;> rfl

/-- A filter other than the one replaced stays. -/
theorem State.biquad_setBiquad_ne (s : State) {k l : FilterRef} (h : k ≠ l) (b : Biquad) :
    (s.setBiquad l b).biquad k = s.biquad k := by
  cases l <;> cases k <;> simp_all [State.setBiquad, State.biquad, Quad.get_set]

/-- The four history registers of a Biquad. -/
def Biquad.history (b : Biquad) : F32 × F32 × F32 × F32 := (b.x1, b.x2, b.y1, b.y2)

/-- A coefficient setter keeps the history (`41_biquad.md` R154). -/
theorem bqSetLowpass_history (k : Parameters) (b : Biquad) (nf q : F32) : (bqSetLowpass k b nf q).history = b.history := by
  simp only [bqSetLowpass]
  split
  · rfl
  · split <;> rfl

theorem dampProcess_kind (d : Damp) (u : F32) : (dampProcess d u).1.kind = d.kind := by cases d <;> rfl

theorem dampSetCutoff_kind (k : Parameters) (fs c : F32) (d : Damp) : (dampSetCutoff k fs c d).kind = d.kind := by cases d <;> rfl

@[simp] theorem fdnSample_p (n : Num) (e : Engine) (x : F32) : (fdnSample n e x).1.p = e.p := rfl
@[simp] theorem fdnSample_fs (n : Num) (e : Engine) (x : F32) : (fdnSample n e x).1.fs = e.fs := rfl
@[simp] theorem fdnSample_cap (n : Num) (e : Engine) (x : F32) : (fdnSample n e x).1.cap = e.cap := rfl
@[simp] theorem fdnSample_len (n : Num) (e : Engine) (x : F32) : (fdnSample n e x).1.len = e.len := rfl
@[simp] theorem fdnSample_fbm (n : Num) (e : Engine) (x : F32) : (fdnSample n e x).1.fbm = e.fbm := rfl

/-- RENDER writes what FDN_SAMPLE writes and nothing else. -/
theorem renderLoop_keeps (n : Num) (xs : List F32) (e : Engine) :
    (renderLoop n e xs).1.p = e.p ∧ (renderLoop n e xs).1.fs = e.fs ∧ (renderLoop n e xs).1.cap = e.cap ∧
      (renderLoop n e xs).1.len = e.len ∧ (renderLoop n e xs).1.fbm = e.fbm := by
  induction xs generalizing e with
  | nil => exact ⟨rfl, rfl, rfl, rfl, rfl⟩
  | cons x xs ih => exact ih (fdnSample n e x).1

theorem renderLoop_length (n : Num) (xs : List F32) (e : Engine) : (renderLoop n e xs).2.length = 2 * xs.length := by
  induction xs generalizing e with
  | nil => rfl
  | cons x xs ih =>
    simp only [renderLoop, List.length_cons, ih]
    omega

theorem renderState_queue (s : State) (xs : List F32) : (renderState s xs).queue = s.queue := rfl

theorem drainState_queue (s : State) : (drainState s).queue = (dequeue s.par s.queue).1 := rfl

end Sys2Proof.Machine
end

