-- ==== Sys2Proof/Laws/Float.lean ====
section
/-!
SUPPORT. The order of binary32 values, and `clamp` (`00_scope.md` R5, R13).
-/

namespace Sys2Proof.F32

theorem le_refl_of (a : F32) (h : a.isNaN = false) : le a a = true := by
  cases a with
  | finite n e f => simp [le]
  | inf n => cases n <;> rfl
  | nan => exact absurd h (by decide)

theorem not_nan_of_le {a b : F32} (h : le a b = true) : a.isNaN = false ∧ b.isNaN = false := by
  cases a <;> cases b <;> simp_all [le, isNaN]

theorem le_trans {a b c : F32} (hab : le a b = true) (hbc : le b c = true) : le a c = true := by
  cases a <;> cases b <;> cases c <;> simp_all [le] <;> first
    | omega
    | (rename_i p q r; cases p <;> cases q <;> cases r <;> simp_all)

theorem le_total {a b : F32} (ha : a.isNaN = false) (hb : b.isNaN = false) : le a b = true ∨ le b a = true := by
  cases a <;> cases b <;> simp_all [le, isNaN] <;> first
    | omega
    | (rename_i p q; cases p <;> cases q <;> simp)

/-- A comparison that fails between values that are not NaN holds the other way round. -/
theorem le_of_not_le {a b : F32} (ha : a.isNaN = false) (hb : b.isNaN = false) (h : le a b = false) : le b a = true := by
  rcases le_total ha hb with h' | h'
  · rw [h] at h'; exact absurd h' (by decide)
  · exact h'

/-- What `clamp` answers lies in the range. -/
theorem clamp_range {v lo hi : F32} (h : le lo hi = true) : le lo (v.clamp lo hi) = true ∧ le (v.clamp lo hi) hi = true := by
  have hn := not_nan_of_le h
  unfold clamp
  split
  · exact ⟨le_refl_of lo hn.1, h⟩
  · rename_i h1
    have h1 : le lo v = true := by simpa using h1
    split
    · exact ⟨h, le_refl_of hi hn.2⟩
    · rename_i h2
      refine ⟨h1, ?_⟩
      rcases le_total (not_nan_of_le h1).2 hn.2 with h3 | h3
      · exact h3
      · simpa [lt, h3] using h2

theorem clamp_of_within {v lo hi : F32} (h1 : le lo v = true) (h2 : le v hi = true) : v.clamp lo hi = v := by
  simp [clamp, lt, h1, h2]

theorem clamp_of_not_ge {v lo hi : F32} (h : le lo v = false) : v.clamp lo hi = lo := by
  simp [clamp, h]

theorem clamp_of_above {v lo hi : F32} (h : le lo hi = true) (hv : lt hi v = true) : v.clamp lo hi = hi := by
  have h2 : le hi v = true := by simp [lt] at hv; exact hv.1
  simp [clamp, hv, le_trans h h2]

theorem isFinite_of_within {v lo hi : F32} (hlo : lo.isFinite = true) (hhi : hi.isFinite = true) (h1 : le lo v = true)
    (h2 : le v hi = true) : v.isFinite = true := by
  cases v with
  | finite n e f => rfl
  | nan => cases lo <;> simp_all [le, isFinite]
  | inf n => cases n <;> cases lo <;> cases hi <;> simp_all [le, isFinite]

end Sys2Proof.F32
end

