-- ==== Sys2Proof/Laws/Words.lean ====
section
/-!
SUPPORT. Bit patterns and message words: a value's bit pattern stands for it, and a message word has its tag and value
(`00_scope.md` R4, `30_encoding.md` R91).
-/

namespace Sys2Proof

theorem F32.ofBits_toBits (v : F32) : F32.ofBits v.toBits = v := by
  cases v with
  | nan => decide
  | inf n => cases n <;> decide
  | finite n e f =>
    obtain ⟨e, he⟩ := e
    obtain ⟨f, hf⟩ := f
    obtain ⟨k, hk⟩ : ∃ k, k = (if n then 2147483648 else 0) + e * 8388608 + f := ⟨_, rfl⟩
    have hlt : k < 2 ^ 32 := by subst hk; cases n <;> simp <;> omega
    have hb : (BitVec.ofNat 32 k).toNat = k := by rw [BitVec.toNat_ofNat, Nat.mod_eq_of_lt hlt]
    have hs : (BitVec.ofNat 32 k).getLsbD 31 = n := by
      rw [BitVec.getLsbD, hb, Nat.testBit, Nat.shiftRight_eq_div_pow, hk]
      cases n <;> simp <;> omega
    have h1 : k / 8388608 % 256 = e := by subst hk; cases n <;> simp <;> omega
    have h2 : k % 8388608 = f := by subst hk; cases n <;> simp <;> omega
    have ht : (F32.finite n ⟨e, he⟩ ⟨f, hf⟩).toBits = BitVec.ofNat 32 k := by rw [hk]; rfl
    unfold F32.ofBits
    simp only [ht, hb, hs, h1, h2, he, dite_true]

namespace Machine

theorem msgTag_msgWord (t : Nat) (ht : t < 256) (v : F32) : msgTag (msgWord t v) = t := by
  have hv := v.toBits.isLt
  unfold msgTag msgWord
  rw [BitVec.toNat_ofNat, Nat.mod_eq_of_lt (by omega)]
  omega

theorem msgValue_msgWord (t : Nat) (ht : t < 256) (v : F32) : msgValue (msgWord t v) = v := by
  have hv := v.toBits.isLt
  unfold msgValue msgWord
  rw [BitVec.toNat_ofNat, Nat.mod_eq_of_lt (by omega)]
  have : BitVec.ofNat 32 (t * 4294967296 + v.toBits.toNat) = v.toBits := by
    apply BitVec.eq_of_toNat_eq
    rw [BitVec.toNat_ofNat]
    omega
  rw [this, F32.ofBits_toBits]

end Machine

end Sys2Proof
end

