-- ==== Sys2Proof/Laws/PerInstr.lean ====
section
/-!
SUPPORT. The statements made of every operation as syntax, one lemma per constructor: the code of an operation carries the
fixed bits that `spec/opcode_table.json` gives its row.
-/

namespace Sys2Proof.Laws.TableMatch

open Sys2Proof

/-- The value of the fixed bits of an operation's row in `spec/opcode_table.json` (its `match`). -/
def fixedBits (i : Instr) : Nat :=
  match i with
  | .size _ => 0x0000000000
  | .decay _ => 0x0100000000
  | .absorption _ => 0x0200000000
  | .hardness _ => 0x0300000000
  | .progression _ => 0x0400000000
  | .drywet _ => 0x0500000000
  | .width _ => 0x0600000000
  | .predelay _ => 0x0700000000
  | .reset _ => 0x01
  | .enq _ => 0x02
  | .deq => 0x03
  | .drain => 0x04
  | .render _ => 0x05
  | .callback _ => 0x06
  | .setSize _ => 0x10
  | .setDecay _ => 0x11
  | .setAbsorption _ => 0x12
  | .setHardness _ => 0x13
  | .setProgression _ => 0x14
  | .setDrywet _ => 0x15
  | .setWidth _ => 0x16
  | .setPredelay _ => 0x17
  | .fdnSample _ => 0x18
  | .rederiveLengths => 0x19
  | .applyAbsorption => 0x1A
  | .dlNew _ _ => 0x20
  | .dlSetDuration _ _ => 0x21
  | .dlWrite _ _ => 0x22
  | .dlRead _ => 0x23
  | .dlProcess _ _ => 0x24
  | .dlProcessBlock _ _ => 0x25
  | .bqSetLowpass _ _ _ => 0x30
  | .bqSetHighpass _ _ _ => 0x31
  | .bqSetBandpass _ _ _ => 0x32
  | .bqSetLowshelf _ _ _ => 0x33
  | .bqSetHighshelf _ _ _ => 0x34
  | .bqSetPeaking _ _ _ _ => 0x35
  | .bqSetAllpass _ _ _ => 0x36
  | .bqSetNotch _ _ _ => 0x37
  | .bqProcess _ _ => 0x38
  | .bqNew _ => 0x39
  | .opNew _ _ => 0x40
  | .opSetFrequency _ _ => 0x41
  | .opProcess _ _ => 0x42
  | .apNew _ _ _ => 0x50
  | .apSetDelay _ _ => 0x51
  | .apSetGain _ _ => 0x52
  | .apProcess _ _ => 0x53
  | .apSetDuration _ _ => 0x54
  | .scSetHardness _ => 0x60
  | .scProcess _ => 0x61
  | .coprime _ _ _ => 0x70
  | .hadamard _ => 0x71
  | .matvec _ _ => 0x72
  | .syncFwd => 0x80
  | .syncBack => 0x81

/-- A message word has its tag under the mask `0xFF00000000`; a command has its id (R91, R96). -/
def Statement (i : Instr) : Prop :=
  match encode i with
  | .msg word => Machine.msgTag word * 4294967296 = fixedBits i
  | .cmd c => c.id.toNat = fixedBits i

theorem size (value : F32) : Statement (.size value) := by
  simp only [Statement, encode, fixedBits, Machine.msgTag_msgWord 0 (by decide) value]
theorem decay (value : F32) : Statement (.decay value) := by
  simp only [Statement, encode, fixedBits, Machine.msgTag_msgWord 1 (by decide) value]
theorem absorption (value : F32) : Statement (.absorption value) := by
  simp only [Statement, encode, fixedBits, Machine.msgTag_msgWord 2 (by decide) value]
theorem hardness (value : F32) : Statement (.hardness value) := by
  simp only [Statement, encode, fixedBits, Machine.msgTag_msgWord 3 (by decide) value]
theorem progression (value : F32) : Statement (.progression value) := by
  simp only [Statement, encode, fixedBits, Machine.msgTag_msgWord 4 (by decide) value]
theorem drywet (value : F32) : Statement (.drywet value) := by
  simp only [Statement, encode, fixedBits, Machine.msgTag_msgWord 5 (by decide) value]
theorem width (value : F32) : Statement (.width value) := by
  simp only [Statement, encode, fixedBits, Machine.msgTag_msgWord 6 (by decide) value]
theorem predelay (value : F32) : Statement (.predelay value) := by
  simp only [Statement, encode, fixedBits, Machine.msgTag_msgWord 7 (by decide) value]
theorem reset (sampleRate : F32) : Statement (.reset sampleRate) := rfl
theorem enq (word : MsgWord) : Statement (.enq word) := rfl
theorem deq : Statement .deq := rfl
theorem drain : Statement .drain := rfl
theorem render (xs : List F32) : Statement (.render xs) := rfl
theorem callback (xs : List F32) : Statement (.callback xs) := rfl
theorem setSize (v : F32) : Statement (.setSize v) := rfl
theorem setDecay (v : F32) : Statement (.setDecay v) := rfl
theorem setAbsorption (v : F32) : Statement (.setAbsorption v) := rfl
theorem setHardness (v : F32) : Statement (.setHardness v) := rfl
theorem setProgression (v : F32) : Statement (.setProgression v) := rfl
theorem setDrywet (v : F32) : Statement (.setDrywet v) := rfl
theorem setWidth (v : F32) : Statement (.setWidth v) := rfl
theorem setPredelay (v : F32) : Statement (.setPredelay v) := rfl
theorem fdnSample (x : F32) : Statement (.fdnSample x) := rfl
theorem rederiveLengths : Statement .rederiveLengths := rfl
theorem applyAbsorption : Statement .applyAbsorption := rfl
theorem dlNew (l : LineRef) (c : Nat) : Statement (.dlNew l c) := rfl
theorem dlSetDuration (l : LineRef) (d : Nat) : Statement (.dlSetDuration l d) := rfl
theorem dlWrite (l : LineRef) (x : F32) : Statement (.dlWrite l x) := rfl
theorem dlRead (l : LineRef) : Statement (.dlRead l) := rfl
theorem dlProcess (l : LineRef) (x : F32) : Statement (.dlProcess l x) := rfl
theorem dlProcessBlock (l : LineRef) (xs : List F32) : Statement (.dlProcessBlock l xs) := rfl
theorem bqSetLowpass (b : FilterRef) (nf : F32) (q : F32) : Statement (.bqSetLowpass b nf q) := rfl
theorem bqSetHighpass (b : FilterRef) (nf : F32) (q : F32) : Statement (.bqSetHighpass b nf q) := rfl
theorem bqSetBandpass (b : FilterRef) (nf : F32) (q : F32) : Statement (.bqSetBandpass b nf q) := rfl
theorem bqSetLowshelf (b : FilterRef) (nf : F32) (gainDb : F32) : Statement (.bqSetLowshelf b nf gainDb) := rfl
theorem bqSetHighshelf (b : FilterRef) (nf : F32) (gainDb : F32) : Statement (.bqSetHighshelf b nf gainDb) := rfl
theorem bqSetPeaking (b : FilterRef) (nf : F32) (q : F32) (gainDb : F32) : Statement (.bqSetPeaking b nf q gainDb) := rfl
theorem bqSetAllpass (b : FilterRef) (nf : F32) (q : F32) : Statement (.bqSetAllpass b nf q) := rfl
theorem bqSetNotch (b : FilterRef) (nf : F32) (q : F32) : Statement (.bqSetNotch b nf q) := rfl
theorem bqProcess (b : FilterRef) (x : F32) : Statement (.bqProcess b x) := rfl
theorem bqNew (b : FilterRef) : Statement (.bqNew b) := rfl
theorem opNew (f : FilterRef) (sampleRate : F32) : Statement (.opNew f sampleRate) := rfl
theorem opSetFrequency (f : FilterRef) (freq : F32) : Statement (.opSetFrequency f freq) := rfl
theorem opProcess (f : FilterRef) (x : F32) : Statement (.opProcess f x) := rfl
theorem apNew (a : ApRef) (c : Nat) (sampleRate : F32) : Statement (.apNew a c sampleRate) := rfl
theorem apSetDelay (a : ApRef) (seconds : F32) : Statement (.apSetDelay a seconds) := rfl
theorem apSetGain (a : ApRef) (g : F32) : Statement (.apSetGain a g) := rfl
theorem apProcess (a : ApRef) (x : F32) : Statement (.apProcess a x) := rfl
theorem apSetDuration (a : ApRef) (d : Nat) : Statement (.apSetDuration a d) := rfl
theorem scSetHardness (h : F32) : Statement (.scSetHardness h) := rfl
theorem scProcess (x : F32) : Statement (.scProcess x) := rfl
theorem coprime (start : Nat) (factor : F32) (count : Nat) : Statement (.coprime start factor count) := rfl
theorem hadamard (n : Nat) : Statement (.hadamard n) := rfl
theorem matvec (v : Quad F32) (m : Quad (Quad F32)) : Statement (.matvec v m) := rfl
theorem syncFwd : Statement .syncFwd := rfl
theorem syncBack : Statement .syncBack := rfl

end Sys2Proof.Laws.TableMatch
end

