-- ==== Sys2Proof/Tests/Slice0.lean ====
section
/-!
SUPPORT. The model's own tests.  Expected results come from the encodings of `30_encoding.md` and from the vectors V<n> and the
programs P1 to P5 of `95_test_vectors.md`; each test names its source.  The `witness_*` theorems show, for each statement of the
certificate that has hypotheses, operands and a state that meet them together.
-/

namespace Sys2Proof.Tests

open Sys2Proof Sys2Proof.Machine

/-! ## Helpers -/

/-- The binary32 value of a bit pattern. -/
def f (b : BitVec 32) : F32 := F32.ofBits b

/-- A step that answers a next state of which `p` holds. -/
def ends (o : Out) (p : State → Bool) : Bool :=
  match o with
  | .next t => p t
  | .fault _ => false
  | .refused _ => false

/-- The state after reset with the given stand-alone line, biquad, one-pole or allpass. -/
def withLine (l : DelayLine) : State := { State.reset with bench := { Bench.initial Parameters.table with line := l } }
def withBq (b : Biquad) : State := { State.reset with bench := { Bench.initial Parameters.table with bq := b } }
def withOp (o : OnePole) : State := { State.reset with bench := { Bench.initial Parameters.table with op := o } }
def withAp (a : Allpass) : State := { State.reset with bench := { Bench.initial Parameters.table with ap := a } }

/-- The state after reset with the given counters, and slot 0 holding `word`. -/
def withQueue (word : MsgWord) (tail tailSync head headSync : Nat) : State :=
  { State.reset with queue := ⟨slotWrite 16 (List.replicate 16 0#40) 0 word, tail, tailSync, head, headSync⟩ }

/-- A configured state whose damping filters are as OP_NEW and BQ_NEW make them, so that no `NUM` value is in it. -/
def quiet : State :=
  { State.reset with eng := { State.reset.eng with damp := Quad.build fun _ => .onePole (opNew State.resetRate) } }
def quietBq : State :=
  { quiet with
    par := { quiet.par with damping := .biquad }
    eng := { quiet.eng with damp := Quad.build fun _ => .biquad bqNew } }

/-- The states in the middle of a DRAIN, where a setter runs, and the state after reset with `CDC_LAG` = `ZERO`. -/
def draining : State := { State.reset with seq := .draining }
/-- The states in the middle of a RENDER, where a sample is computed. -/
def rendering : State := { State.reset with seq := .rendering 0 }
def quietRendering : State := { quiet with seq := .rendering 0 }
def quietBqRendering : State := { quietBq with seq := .rendering 0 }
def quietDraining : State := { quiet with seq := .draining }
def quietBqDraining : State := { quietBq with seq := .draining }
def noLag (s : State) : State := { s with par := { s.par with cdcLag := .zero } }

/-- The lines of V11 and P1: capacity 4, duration 2, after one sample and after four. -/
def line1 : DelayLine := { cap := 4, dur := 2, w := 1, r := 3, buf := [(0, f 0x3F800000#32)] }
def line4 : DelayLine :=
  { cap := 4, dur := 2, w := 0, r := 2
    buf := [(0, f 0x3F800000#32), (1, f 0x40000000#32), (2, f 0x40400000#32), (3, f 0x40800000#32)] }

/-- A biquad with coefficients and no history, and the one-pole of V26. -/
def bqOf (b0 b1 b2 a1 a2 : F32) : Biquad := { bqNew with b0 := b0, b1 := b1, b2 := b2, a1 := a1, a2 := a2 }
def opHalf (state : F32) : OnePole := { fs := f 0x473B8000#32, a0 := f 0x3F000000#32, b1 := f 0x3F000000#32, state := state }

/-! ## WellFormed: an ill-formed term for each check -/

theorem test_wf_dlNew : (Instr.dlNew .bench 0).wellFormed = false ∧ (Instr.dlNew .bench 1).wellFormed = true := by decide
theorem test_wf_apNew :
    (Instr.apNew .bench 1 F32.zero).wellFormed = false ∧ (Instr.apNew .bench 2 F32.zero).wellFormed = true := by decide

/-- A line of no words is refused as a step too (R120). -/
theorem test_step_dlNew_zero :
    step { State.reset with pending := [⟨0x20#8, [.line .bench, .nat 0]⟩] } = .refused .noCapacity := by rfl

/-- R257, C10, D42: a setter is not a port command. -/
theorem test_step_setter_presented :
    step { State.reset with pending := [⟨0x17#8, [.f32 F32.zero]⟩] } = .refused .notAccepted := by rfl
/-- R320: an operation on a component of the engine, and FDN_SAMPLE, are no port commands either. -/
theorem test_step_component_presented :
    step { State.reset with pending := [⟨0x21#8, [.line (.apIn 0), .nat 7]⟩] } = .refused .notAccepted ∧
    step { State.reset with pending := [⟨0x38#8, [.filter (.damp 1), .f32 F32.zero]⟩] } = .refused .notAccepted ∧
    step { State.reset with pending := [⟨0x18#8, [.f32 F32.zero]⟩] } = .refused .notAccepted ∧
    step { State.reset with pending := [⟨0x61#8, [.f32 F32.zero]⟩] } = .refused .notAccepted ∧
    exec (.dlSetDuration (.dl 0) 7) State.reset = .refused .notAccepted := ⟨rfl, rfl, rfl, rfl, rfl⟩
/-- R65, R320: a line or a filter of the engine is not made again. -/
theorem test_engine_made_by_reset :
    exec (.dlNew .pre 8) State.reset = .refused .madeElsewhere ∧
    exec (.apNew (.ap 2) 8 F32.zero) State.reset = .refused .madeElsewhere ∧
    exec (.bqNew (.damp 0)) State.reset = .refused .madeElsewhere ∧
    exec (.opNew (.damp 0) F32.zero) State.reset = .refused .madeElsewhere := ⟨rfl, rfl, rfl, rfl⟩
/-- R33: an Allpass has lines of at least two words. -/
theorem test_apNew_one_word : exec (.apNew .bench 1 F32.zero) State.reset = .refused .noCapacity := rfl
/-- R3: the table's values meet the column of constraints (log 26). -/
theorem test_table_legal : Parameters.table.Legal := by decide

/-! ## Decoding: words written out from `30_encoding.md` -/

/-- R91, R92 and V6: `SIZE 10.0` and `ABSORPTION 12000.0`, tag in bits 39:32, value in 31:0. -/
theorem test_decode_size : decode (.msg 0b00000000_01000001001000000000000000000000#40) = .ok (.size (f 0x41200000#32)) := by
  decide
theorem test_decode_absorption :
    decode (.msg 0b00000010_01000110001110111000000000000000#40) = .ok (.absorption (f 0x463B8000#32)) := by decide
/-- V6: `DECAY 2.0` and `HARDNESS 1.0`. -/
theorem test_decode_decay : decode (.msg 0x0140000000#40) = .ok (.decay (f 0x40000000#32)) := by decide
theorem test_decode_hardness : decode (.msg 0x033F800000#40) = .ok (.hardness (f 0x3F800000#32)) := by decide
/-- V7. -/
theorem test_decode_progression : decode (.msg 0x043FA00000#40) = .ok (.progression (f 0x3FA00000#32)) := by decide
theorem test_decode_drywet : decode (.msg 0x053F000000#40) = .ok (.drywet (f 0x3F000000#32)) := by decide
theorem test_decode_width : decode (.msg 0x063F800000#40) = .ok (.width (f 0x3F800000#32)) := by decide
theorem test_decode_predelay : decode (.msg 0x0700000000#40) = .ok (.predelay F32.zero) := by decide
/-- V8 and V9. -/
theorem test_decode_reserved :
    decode (.msg 0x0812345678#40) = .error (.reservedTag 8) ∧ decode (.msg 0xFF7FC00000#40) = .error (.reservedTag 255) := by
  decide
theorem test_decode_nan : decode (.msg 0x057FC00000#40) = .ok (.drywet .nan) := by decide

/-- Encoding, V6 and V7, the other way round. -/
theorem test_encode_messages :
    encode (.size (f 0x41200000#32)) = .msg 0x0041200000#40 ∧ encode (.decay (f 0x40000000#32)) = .msg 0x0140000000#40 ∧
    encode (.progression (f 0x3FA00000#32)) = .msg 0x043FA00000#40 := by decide

/-- R96: one id of each family, operands beside it; 0x82 and 0x07 are not listed (R97). -/
theorem test_decode_commands :
    decode (.cmd ⟨0x01#8, [.f32 (f 0x473B8000#32)]⟩) = .ok (.reset (f 0x473B8000#32)) ∧
    decode (.cmd ⟨0x06#8, [.block [F32.zero]]⟩) = .ok (.callback [F32.zero]) ∧
    decode (.cmd ⟨0x19#8, []⟩) = .ok .rederiveLengths ∧
    decode (.cmd ⟨0x25#8, [.line .bench, .block []]⟩) = .ok (.dlProcessBlock .bench []) ∧
    decode (.cmd ⟨0x37#8, [.filter .bench, .f32 F32.zero, .f32 F32.zero]⟩) = .ok (.bqSetNotch .bench F32.zero F32.zero) ∧
    decode (.cmd ⟨0x41#8, [.filter .bench, .f32 F32.zero]⟩) = .ok (.opSetFrequency .bench F32.zero) ∧
    decode (.cmd ⟨0x54#8, [.allpass .bench, .nat 2]⟩) = .ok (.apSetDuration .bench 2) ∧
    decode (.cmd ⟨0x61#8, [.f32 F32.zero]⟩) = .ok (.scProcess F32.zero) ∧
    decode (.cmd ⟨0x70#8, [.nat 2, .f32 F32.zero, .nat 8]⟩) = .ok (.coprime 2 F32.zero 8) ∧
    decode (.cmd ⟨0x80#8, []⟩) = .ok .syncFwd := by decide
theorem test_decode_unlisted :
    decode (.cmd ⟨0x82#8, []⟩) = .error (.unknownId 0x82#8) ∧ decode (.cmd ⟨0x07#8, []⟩) = .error (.unknownId 0x07#8) := by
  decide

/-- The opcode table's own words: ids of all levels. -/
theorem test_table_words :
    decodeTableWord 40 0x0500000000 = some (.drywet F32.zero) ∧ decodeTableWord 8 0x03 = some .deq ∧
    decodeTableWord 8 0x71 = some (.hadamard 1) ∧ decodeTableWord 8 0x81 = some .syncBack ∧
    decodeTableWord 40 0x0800000000 = none ∧ decodeTableWord 8 0x00 = none ∧ decodeTableWord 16 0x03 = none := by decide

/-! ## Numerics (V1 to V5) -/

theorem test_clamp :
    F32.nan.clamp F32.zero (f 0x3F800000#32) = F32.zero ∧
    (f 0x80000000#32).clamp F32.zero (f 0x3F800000#32) = f 0x80000000#32 ∧
    (f 0x40E00000#32).clamp F32.zero (f 0x3F800000#32) = f 0x3F800000#32 ∧
    (f 0xFF800000#32).clamp F32.zero (f 0x3F800000#32) = F32.zero := by decide
theorem test_truncToNat :
    (f 0x44AEED57#32).truncToNat = 1399 ∧ (f 0x403A96C4#32).truncToNat = 2 ∧ (f 0xC0600000#32).truncToNat = 0 ∧
    F32.nan.truncToNat = 0 ∧ (f 0x4F000000#32).truncToNat = 2147483647 := by decide
theorem test_toF32_tie : F32.ofNat 16777217 = f 0x4B800000#32 := by decide
/-- V73's base length and V100's: a product and a quotient, each rounded. -/
theorem test_base_length :
    ((f 0x41200000#32).mul (f 0x473B8000#32)).div (f 0x43AB8000#32) = f 0x44AEED57#32 ∧
    ((f 0x41200000#32).mul (f 0x472C4400#32)).div (f 0x43AB8000#32) = f 0x44A0B6DB#32 := by decide
/-- The square root listed in section 2.5. -/
theorem test_sqrt : (f 0x3FB4CE08#32).sqrt = f 0x3F9820D7#32 := by decide +kernel

/-- R5, IEEE 754: infinities, NaN, division by zero, roots. -/
theorem test_nonfinite :
    (F32.inf false).sub (.inf false) = .nan ∧ F32.zero.mul (.inf true) = .nan ∧ F32.zero.div (F32.zeroOf true) = .nan ∧
    (f 0xBF800000#32).div F32.zero = .inf true ∧ (f 0x3F800000#32).div (.inf true) = F32.zeroOf true ∧
    (f 0xBF800000#32).sqrt = .nan ∧ (F32.zeroOf true).sqrt = F32.zeroOf true := by decide

/-! ## Status results and conditions -/

/-- R98 and R306. -/
theorem test_status_bits :
    (Result.resetStatus true).statusBit = some 1#1 ∧ (Result.enqStatus false).statusBit = some 0#1 ∧
    (Result.dequeued none).statusBit = some 0#1 ∧ (Result.dequeued (some 5)).statusBit = some 1#1 ∧
    (Result.block []).statusBit = none := by decide
theorem test_condition_codes :
    Condition.cfgRange.code = 1 ∧ Condition.capRange.code = 2 ∧ Condition.queueFull.code = 3 ∧ Condition.resetFail.code = 4 := by
  decide

/-! ## Reset -/

/-- V102: RESET 1.0. -/
theorem test_reset_lowest :
    ends (exec (.reset (f 0x3F800000#32)) State.reset) (fun t =>
      decide (t.cfgOut = .resetStatus true) && decide (t.eng.cap = 2) &&
      decide (t.eng.len.toList = [2, 3, 5, 7, 11, 13, 17, 19]) && decide ((t.eng.dl.get 3).dur = 1) &&
      decide (t.eng.pre.dur = 0) && decide (t.eng.p.absorption = f 0x3E800000#32)) = true := by decide
/-- V101: RESET 0.5 fails. -/
theorem test_reset_fails :
    ends (exec (.reset (f 0x3F000000#32)) State.reset) (fun t =>
      decide (t.cfgOut = .resetStatus false) && decide (t.cfgOk = false) && decide (t.seq = .unconfigured)) = true := by decide

/-! ## Messages and setters (V75 to V84), inside a DRAIN on the state after reset -/

theorem test_size_message :
    ends (step (State.reset.withFetchWord 40 0x0000000000)) (fun t =>
      decide (t.eng.p.size = f 0x3F800000#32) &&
      decide (t.eng.len.toList = [139, 173, 216, 271, 337, 421, 527, 659]) && decide (t.queue.head = 1)) = true := by decide
theorem test_setSize_top :
    ends (exec (.setSize (f 0x42C80000#32)) { draining with eng := { State.reset.eng with
        p := { State.reset.eng.p with progression := f 0x40000000#32 } } }) (fun t =>
      decide (t.eng.len.toList = [13994, 27989, 55977, 111953, 223907, 447809, 895619, 1791233]) &&
      decide ((t.eng.ap.get 1).inLine.dur = 27989) && decide ((t.eng.ap.get 2).outLine.dur = 48000) &&
      decide ((t.eng.dl.get 0).dur = 48000)) = true := by decide
theorem test_setProgression :
    ends (exec (.setProgression (f 0x3F800000#32)) draining) (fun t =>
      decide (t.eng.len.toList = [1399, 1400, 1401, 1403, 1409, 1411, 1417, 1423])) = true := by decide
theorem test_progression_message_nan :
    ends (exec (.progression .nan) draining) (fun t => decide (t.eng.p.progression = f 0x3F800000#32)) = true := by decide
/-- V80. -/
theorem test_setDecay :
    ends (exec (.setDecay (f 0x40000000#32)) draining) (fun t =>
      decide (t.eng.p.decay = f 0x3F7C0000#32) && decide ((t.eng.ap.get 0).gain = f 0x3F000000#32)) = true := by decide
theorem test_decay_message :
    ends (exec (.decay (f 0xBF800000#32)) draining) (fun t => decide (t.eng.p.decay = F32.zero)) = true := by decide
/-- V78. -/
theorem test_setAbsorption :
    ends (exec (.setAbsorption (f 0x4E6E6B28#32)) draining) (fun t =>
      decide (t.eng.p.absorption = f 0x46BB8000#32)) = true := by decide
theorem test_absorption_message :
    ends (exec (.absorption (f 0xC0A00000#32)) draining) (fun t => decide (t.eng.p.absorption = F32.zero)) = true := by decide
/-- V79. -/
theorem test_setHardness :
    ends (exec (.setHardness F32.zero) draining) (fun t => decide (t.eng.p.hardness = f 0x3A800000#32)) = true := by decide
theorem test_hardness_message :
    ends (exec (.hardness (f 0x49742400#32)) draining) (fun t => decide (t.eng.p.hardness = f 0x44800000#32)) = true := by
  decide
/-- V81. -/
theorem test_setWidth :
    ends (exec (.setWidth (f 0x40400000#32)) draining) (fun t => decide (t.eng.p.width = f 0x40000000#32)) = true := by decide
theorem test_width_message :
    ends (exec (.width F32.zero) draining) (fun t => decide (t.eng.p.width = F32.zero)) = true := by decide
theorem test_setDrywet :
    ends (exec (.setDrywet (f 0xBF000000#32)) draining) (fun t => decide (t.eng.p.drywet = F32.zero)) = true := by decide
/-- The table's word of SET_WIDTH and of REDERIVE_LENGTHS, run through a DRAIN (logs 3, 12). -/
theorem test_setter_ids :
    ends (step (State.reset.withFetchWord 8 0x16)) (fun t => decide (t.eng.p.width = F32.zero)) = true ∧
    ends (step (State.reset.withFetchWord 8 0x19)) (fun t =>
      decide (t.eng.p = State.reset.eng.p) && decide (t.eng.ap = State.reset.eng.ap) && decide (t.queue.head = 1)) = true := by
  decide
/-- V9. -/
theorem test_drywet_message :
    ends (step (State.reset.withFetchWord 40 0x057FC00000)) (fun t => decide (t.eng.p.drywet = F32.zero)) = true := by decide
/-- V77. -/
theorem test_setPredelay :
    ends (exec (.setPredelay (f 0x40200000#32)) draining) (fun t =>
      decide (t.eng.pre.dur = 120) && decide (t.eng.pre.r = 47881) && decide (t.eng.p.predelayMs = f 0x40200000#32)) = true := by
  decide
theorem test_predelay_message :
    ends (exec (.predelay (f 0x44FA0000#32)) draining) (fun t =>
      decide (t.eng.pre.dur = 48000) && decide (t.eng.p.predelayMs = f 0x447A0000#32)) = true := by decide
/-- V73: the lengths REDERIVE_LENGTHS computes at the reset parameters. -/
theorem test_rederiveLengths :
    ends (exec .rederiveLengths { draining with eng := { State.reset.eng with len := lengthFile [] } }) (fun t =>
      decide (t.eng.len.toList = [1399, 1748, 2187, 2731, 3413, 4267, 5333, 6665])) = true := by decide

/-! ## The parameter queue (V90 to V96) -/

theorem test_enq :
    ends (exec (.enq 0x053F800000#40) State.reset) (fun t =>
      decide (t.ctrlOut = .enqStatus true) && decide (t.queue.tail = 1) && decide (t.queue.tailSync = 0) &&
      decide (slotRead 16 t.queue.slot 0 = 0x053F800000#40)) = true := by decide
/-- V94: the slot of the seventeenth message is slot 0. -/
theorem test_enq_wraps :
    ends (exec (.enq 0x0340000000#40) (withQueue 0 16 16 1 1)) (fun t =>
      decide (t.queue.tail = 17) && decide (slotRead 16 t.queue.slot 16 = 0x0340000000#40) &&
      decide (slotRead 16 t.queue.slot 0 = 0x0340000000#40)) = true := by decide
theorem test_enq_full :
    ends (exec (.enq 0x0340000000#40) (withQueue 0 16 0 0 0)) (fun t =>
      decide (t.ctrlOut = .enqStatus false) && decide (t.queue.tail = 16) && decide (slotRead 16 t.queue.slot 0 = 0)) = true := by
  decide
theorem test_deq_not_yet_visible :
    ends (exec .deq (withQueue 0x053F800000#40 1 0 0 0)) (fun t =>
      decide (t.audioOut = .dequeued none) && decide (t.queue.head = 0)) = true := by decide
theorem test_deq :
    ends (exec .deq (withQueue 0x053F800000#40 1 1 0 0)) (fun t =>
      decide (t.audioOut = .dequeued (some 0x053F800000#40)) && decide (t.queue.head = 1) && decide (t.queue.headSync = 0)) =
        true := by decide
/-- V95: with `CDC_LAG` = `ZERO` the copy moves at once. -/
theorem test_enq_zero_lag :
    ends (exec (.enq 0x053F800000#40) (noLag State.reset)) (fun t => decide (t.queue.tailSync = 1)) = true := by
  decide
theorem test_syncFwd :
    ends (exec .syncFwd (withQueue 0 1 0 0 0)) (fun t => decide (t.queue.tailSync = 1) && decide (t.queue.tail = 1)) = true := by
  decide
theorem test_syncFwd_not_enabled : exec .syncFwd State.reset = .refused .syncNotEnabled := by rfl
theorem test_syncBack :
    ends (exec .syncBack (withQueue 0 16 16 1 0)) (fun t => decide (t.queue.headSync = 1) && decide (t.queue.head = 1)) = true := by
  decide
/-- V96: a reserved tag is consumed and applies nothing. -/
theorem test_drain_reserved :
    ends (exec .drain (withQueue 0x0912345678#40 1 1 0 0)) (fun t =>
      decide (t.queue.head = 1) && decide (t.eng.p = State.reset.eng.p) && decide (t.seq = .idle)) = true := by decide
theorem test_drain_applies :
    ends (exec .drain (withQueue 0x0600000000#40 1 1 0 0)) (fun t =>
      decide (t.eng.p.width = F32.zero) && decide (t.audioOut = .none)) = true := by decide
/-- P2, step 16: CALLBACK of an empty block applies one message. -/
theorem test_callback_one_message :
    ends (exec (.callback []) (withQueue 0x013F780000#40 2 2 0 0)) (fun t =>
      decide (t.eng.p.decay = f 0x3F780000#32) && decide (t.queue.head = 1) && decide (t.audioOut = .block [])) = true := by
  decide
theorem test_render_empty :
    ends (exec (.render []) State.reset) (fun t => decide (t.audioOut = .block []) && decide (t.seq = .idle)) = true := by decide

/-! ## The delay line (V10 to V18, P1) -/

theorem test_dlNew :
    ends (exec (.dlNew .bench 4) State.reset) (fun t =>
      decide (t.bench.line = { cap := 4, dur := 3, w := 0, r := 1, buf := [] })) = true := by decide
theorem test_dlSetDuration :
    ends (exec (.dlSetDuration .bench 2) (withLine (dlNew 4))) (fun t =>
      decide (t.bench.line.dur = 2) && decide (t.bench.line.r = 2) && decide (t.bench.line.w = 0)) = true := by decide
/-- V13: a request above `cap - 1`. -/
theorem test_dlSetDuration_clamped :
    ends (exec (.dlSetDuration .bench 9) (withLine { line4 with w := 2, r := 2, dur := 0 })) (fun t =>
      decide (t.bench.line.dur = 3) && decide (t.bench.line.r = 3)) = true := by decide
/-- P1, steps 4 and 7: the index wraps, the oldest word is overwritten. -/
theorem test_dlProcess_wraps :
    ends (exec (.dlProcess .bench (f 0x40A00000#32)) (withLine line4)) (fun t =>
      decide (t.audioOut = .sample (f 0x40400000#32)) && decide (t.bench.line.w = 1) && decide (t.bench.line.r = 3) &&
      decide (memRead t.bench.line.buf 0 = f 0x40A00000#32)) = true := by decide
/-- V17: a line of one word. -/
theorem test_dlProcess_one_word :
    ends (exec (.dlProcess .bench (f 0x40A00000#32)) (withLine (dlNew 1))) (fun t =>
      decide (t.audioOut = .sample (f 0x40A00000#32)) && decide (t.bench.line.w = 0) && decide (t.bench.line.r = 0)) = true := by
  decide
theorem test_dlWrite :
    ends (exec (.dlWrite .bench (f 0x40000000#32)) (withLine line1)) (fun t =>
      decide (t.bench.line.buf = [(0, f 0x3F800000#32), (1, f 0x40000000#32)]) && decide (t.bench.line.w = 2) &&
      decide (t.bench.line.r = 3)) = true := by decide
/-- Writing `+0` over a word removes its entry; `-0` is a word of its own (log 17). -/
theorem test_dlWrite_zero :
    ends (exec (.dlWrite .bench F32.zero) (withLine line4)) (fun t => decide (memRead t.bench.line.buf 0 = F32.zero) &&
      decide (t.bench.line.buf.length = 3)) = true := by decide
/-- V18, third read: the word written two pairs earlier. -/
theorem test_dlRead :
    ends (exec (.dlRead .bench) (withLine { line4 with r := 0, w := 2 })) (fun t =>
      decide (t.audioOut = .sample (f 0x3F800000#32)) && decide (t.bench.line.r = 1) && decide (t.bench.line.w = 2)) = true := by
  decide
/-- V11 as one block. -/
theorem test_dlProcessBlock :
    ends (exec (.dlProcessBlock .bench
        [f 0x3F800000#32, f 0x40000000#32, f 0x40400000#32, f 0x40800000#32, f 0x40A00000#32])
        (withLine { dlNew 4 with dur := 2, r := 2 })) (fun t =>
      decide (t.audioOut = .block [F32.zero, F32.zero, f 0x3F800000#32, f 0x40000000#32, f 0x40400000#32])) = true := by decide

/-! ## The biquad: the constant-gain ends (V42 to V51) and the recurrence (V52) -/

/-- One setter on the stand-alone biquad, at the given operands, leaves the constant gain `g`. -/
def leavesGain (i : Instr) (g : F32) : Bool :=
  ends (exec i (withBq (bqOf (f 0x3F000000#32) (f 0x3E800000#32) F32.zero F32.zero F32.zero))) fun t =>
    decide (t.bench.bq = bqOf g F32.zero F32.zero F32.zero F32.zero)

theorem test_bqSetLowpass :
    leavesGain (.bqSetLowpass .bench (f 0x40200000#32) (f 0x3F000000#32)) (f 0x3F800000#32) = true ∧
    leavesGain (.bqSetLowpass .bench .nan (f 0x3F800000#32)) F32.zero = true := by decide
/-- The row of BQ_SET_HIGHPASS in the boundary table of `41_biquad.md`. -/
theorem test_bqSetHighpass :
    leavesGain (.bqSetHighpass .bench (f 0x3F800000#32) (f 0x3F800000#32)) F32.zero = true ∧
    leavesGain (.bqSetHighpass .bench F32.zero (f 0x3F800000#32)) (f 0x3F800000#32) = true := by decide
theorem test_bqSetBandpass :
    leavesGain (.bqSetBandpass .bench (f 0x3F000000#32) F32.zero) (f 0x3F800000#32) = true ∧
    leavesGain (.bqSetBandpass .bench F32.zero (f 0x3F800000#32)) F32.zero = true := by decide
theorem test_bqSetNotch : leavesGain (.bqSetNotch .bench (f 0x3F000000#32) F32.zero) F32.zero = true := by decide
theorem test_bqSetAllpass :
    leavesGain (.bqSetAllpass .bench (f 0x3E800000#32) F32.zero) (f 0xBF800000#32) = true := by decide
/-- The boundary table's row of BQ_SET_PEAKING. -/
theorem test_bqSetPeaking :
    leavesGain (.bqSetPeaking .bench (f 0x3F800000#32) (f 0x3F800000#32) (f 0x40C00000#32)) (f 0x3F800000#32) = true := by decide
theorem test_bqSetLowshelf :
    leavesGain (.bqSetLowshelf .bench F32.zero (f 0x40C00000#32)) (f 0x3F800000#32) = true := by decide
theorem test_bqSetHighshelf :
    leavesGain (.bqSetHighshelf .bench (f 0x3F800000#32) (f 0xC1400000#32)) (f 0x3F800000#32) = true := by decide
/-- V52, first output, and the fifth from the history the vector implies. -/
theorem test_bqProcess :
    ends (exec (.bqProcess .bench (f 0x3F800000#32))
        (withBq (bqOf (f 0x3F000000#32) (f 0x3E800000#32) (f 0x3E000000#32) (f 0xBF000000#32) (f 0x3E800000#32)))) (fun t =>
      decide (t.audioOut = .sample (f 0x3F000000#32)) && decide (t.bench.bq.x1 = f 0x3F800000#32) &&
      decide (t.bench.bq.y1 = f 0x3F000000#32)) = true := by decide
theorem test_bqProcess_history :
    ends (exec (.bqProcess .bench F32.zero)
        (withBq { bqOf (f 0x3F000000#32) (f 0x3E800000#32) (f 0x3E000000#32) (f 0xBF000000#32) (f 0x3E800000#32) with
          y1 := F32.zero, y2 := f 0x3E800000#32 })) (fun t =>
      decide (t.audioOut = .sample (f 0xBD800000#32)) && decide (t.bench.bq.y2 = F32.zero)) = true := by decide
/-- V40. -/
theorem test_bqNew :
    ends (exec (.bqNew .bench) (withBq { bqNew with x1 := f 0x3F800000#32 })) (fun t =>
      decide (t.bench.bq = bqOf (f 0x3F800000#32) F32.zero F32.zero F32.zero F32.zero)) = true := by decide

/-! ## The one-pole (V20 to V26) -/

theorem test_opNew :
    ends (exec (.opNew .bench (f 0x473B8000#32)) State.reset) (fun t =>
      decide (t.bench.op = { fs := f 0x473B8000#32, a0 := f 0x3F800000#32, b1 := F32.zero, state := F32.zero })) = true := by
  decide
/-- The arguments of `NUM.exp` in V21, V23 and V25. -/
theorem test_opExponent :
    opExponent (f 0x473B8000#32) (f 0x463B8000#32) = f 0xBFC90FDB#32 ∧
    opExponent (f 0x473B8000#32) (f 0x4E6E6B28#32) = f 0xC0490FDB#32 ∧
    opExponent (f 0x473B8000#32) (f 0x447A0000#32) = f 0xBE060A92#32 ∧
    opExponent (f 0x473B8000#32) (f 0xC0A00000#32) = f 0x80000000#32 := by decide
/-- V24: at frequency 0 the filter holds. -/
theorem test_opSetFrequency_zero :
    (opSetFrequency State.reset.par.num (opHalf F32.zero) F32.zero).b1 = f 0x3F800000#32 ∧
    (opSetFrequency State.reset.par.num (opHalf F32.zero) F32.zero).a0 = F32.zero := by
  have h : State.reset.par.num.exp (opExponent (f 0x473B8000#32) F32.zero) = f 0x3F800000#32 :=
    (congrArg State.reset.par.num.exp (by decide)).trans State.reset.par.num.exp_zero.2
  exact ⟨h, (congrArg (F32.sub Config.one) h).trans (by decide)⟩
/-- V26: the second and the third output. -/
theorem test_opProcess :
    ends (exec (.opProcess .bench (f 0x3F800000#32)) (withOp (opHalf (f 0x3F000000#32)))) (fun t =>
      decide (t.audioOut = .sample (f 0x3F400000#32)) && decide (t.bench.op.state = f 0x3F400000#32)) = true := by decide

/-! ## The allpass (V30 to V37, P4) -/

theorem test_apNew :
    ends (exec (.apNew .bench 8 (f 0x473B8000#32)) State.reset) (fun t =>
      decide (t.bench.ap.gain = f 0x3F000000#32) && decide (t.bench.ap.inLine = ⟨8, 7, 0, 1, []⟩) &&
      decide (t.bench.ap.outLine = ⟨8, 7, 0, 1, []⟩)) = true := by decide
theorem test_apSetDuration :
    ends (exec (.apSetDuration .bench 0) (withAp (apNew Parameters.table 8 (f 0x473B8000#32)))) (fun t =>
      decide (t.bench.ap.inLine.dur = 1) && decide (t.bench.ap.outLine.dur = 1)) = true ∧
    ends (exec (.apSetDuration .bench 9) (withAp (apNew Parameters.table 8 (f 0x473B8000#32)))) (fun t =>
      decide (t.bench.ap.inLine.dur = 7) && decide (t.bench.ap.outLine.dur = 7)) = true := by decide
theorem test_apSetGain :
    ends (exec (.apSetGain .bench (f 0xC0E00000#32)) State.reset) (fun t => decide (t.bench.ap.gain = f 0xBF7C0000#32)) = true ∧
    ends (exec (.apSetGain .bench .nan) State.reset) (fun t => decide (t.bench.ap.gain = f 0xBF7C0000#32)) = true := by decide
/-- V35 and V36, on the allpass of channel 0, inside a DRAIN. -/
theorem test_apSetDelay :
    ends (exec (.apSetDelay (.ap 0) (f 0x3C23D70A#32)) draining) (fun t => decide ((t.eng.ap.get 0).inLine.dur = 480)) = true ∧
    ends (exec (.apSetDelay (.ap 0) (f 0x40A00000#32)) draining) (fun t => decide ((t.eng.ap.get 0).outLine.dur = 48000)) =
      true := by decide
/-- V31, first and third output: after two samples the input line holds 1, the output line -0.5. -/
theorem test_apProcess_first :
    ends (exec (.apProcess .bench (f 0x3F800000#32)) (withAp (apSetDuration (apNew Parameters.table 8 (f 0x473B8000#32)) 2))) (fun t =>
      decide (t.audioOut = .sample (f 0xBF000000#32)) && decide (memRead t.bench.ap.inLine.buf 0 = f 0x3F800000#32) &&
      decide (memRead t.bench.ap.outLine.buf 0 = f 0xBF000000#32)) = true := by decide
theorem test_apProcess_third :
    ends (exec (.apProcess .bench F32.zero) (withAp
        { gain := f 0x3F000000#32, fs := f 0x473B8000#32
          inLine := ⟨8, 2, 2, 0, [(0, f 0x3F800000#32)]⟩, outLine := ⟨8, 2, 2, 0, [(0, f 0xBF000000#32)]⟩ })) (fun t =>
      decide (t.audioOut = .sample (f 0x3F400000#32)) && decide (t.bench.ap.inLine.r = 1)) = true := by decide

/-! ## The limiter (V59, V59a) -/

theorem test_scSetHardness :
    ends (exec (.scSetHardness .nan) draining) (fun t => decide (t.eng.p.hardness = f 0x3A800000#32)) = true ∧
    ends (exec (.scSetHardness (f 0x49742400#32)) draining) (fun t => decide (t.eng.p.hardness = f 0x44800000#32)) = true := by
  decide
theorem scProcess_zero (n : Sys2Proof.Num) (neg : Bool) : scProcess n Config.one (F32.zeroOf neg) = F32.zeroOf neg := by
  have h : (F32.zeroOf neg).mul Config.one = F32.zeroOf neg := by cases neg <;> decide
  have ht : n.tanh (F32.zeroOf neg) = F32.zeroOf neg := by
    cases neg
    · exact n.tanh_zero.1
    · exact n.tanh_zero.2
  unfold scProcess
  rw [h, ht]
  cases neg <;> decide
theorem test_scProcess_zero :
    ∃ t, exec (.scProcess (F32.zeroOf true)) rendering = .next t ∧ t.audioOut = .sample (F32.zeroOf true) :=
  ⟨_, rfl, congrArg Result.sample (scProcess_zero _ true)⟩

/-! ## Utils (V60 to V71) -/

theorem test_coprime :
    coprime 2 (f 0x3FC00000#32) 8 = [2, 3, 5, 7, 11, 13, 19, 29] ∧ coprime 6 (f 0x3FC00000#32) 4 = [6, 11, 13, 19] ∧
    coprime 10 (f 0x40000000#32) 5 = [10, 21, 41, 83, 163] := by decide
theorem test_coprime_edges :
    coprime 1 (f 0x3FC00000#32) 4 = [1, 1, 1, 1] ∧ coprime 0 (f 0x3FC00000#32) 4 = [0, 1, 1, 1] ∧
    coprime 3 (f 0x40000000#32) 0 = [] ∧ coprime 100 (f 0x3F800000#32) 4 = [100, 101, 103, 107] := by decide
theorem test_hadamard :
    hadamard 4 = some [[1, 1, 1, 1], [1, -1, 1, -1], [1, 1, -1, -1], [1, -1, -1, 1]] ∧ hadamard 1 = some [[1]] ∧
    (hadamard 8).map (fun h => h.getD 7 []) = some [1, -1, -1, 1, -1, 1, 1, -1] := by decide
theorem test_hadamard_refused : hadamard 3 = none ∧ hadamard 0 = none := by decide
theorem test_matvec :
    matvec ⟨f 0x3F800000#32, f 0x40000000#32, f 0x40400000#32, f 0x40800000#32⟩ (mixMatrix Parameters.table) =
      ⟨f 0x40A00000#32, f 0xBF800000#32, f 0xC0000000#32, F32.zero⟩ := by decide
theorem test_matvec_rounds :
    matvec ⟨f 0x3DCCCCCD#32, f 0x3E4CCCCD#32, f 0x3E99999A#32, f 0x3ECCCCCD#32⟩ (mixMatrix Parameters.table) =
      ⟨f 0x3F000000#32, f 0xBDCCCCCC#32, f 0xBE4CCCCD#32, F32.zero⟩ := by decide

/-! ## One sample (V5, V74, V82) -/

/-- V82: with `drywet` = 1 the stage's `l` and `r` are the sums of `fb`. -/
theorem test_outputStage_width :
    outputStage (f 0x3F800000#32) (f 0x40000000#32) F32.zero ⟨f 0x3F800000#32, F32.zero, F32.zero, F32.zero⟩ =
      (f 0x3FC00000#32, f 0xBF000000#32) ∧
    outputStage (f 0x3F800000#32) F32.zero F32.zero ⟨f 0x3F800000#32, F32.zero, F32.zero, F32.zero⟩ =
      (f 0x3F000000#32, f 0x3F000000#32) := by decide
/-- V5: width 1.0 is the identity only up to rounding. -/
theorem test_outputStage_rounds :
    outputStage (f 0x3F800000#32) (f 0x3F800000#32) F32.zero ⟨f 0x3DCCCCCD#32, f 0x3E99999A#32, F32.zero, F32.zero⟩ =
      (f 0x3DCCCCCC#32, f 0x3E99999A#32) := by decide

/-- APPLY_ABSORPTION on biquad filters at the ends of the band: R144 makes them the identity at `fs / 2` (V42) and silent at 0
(V43). -/
theorem test_applyAbsorption :
    ends (exec .applyAbsorption { quietBqDraining with eng := { quietBq.eng with
        p := { quietBq.eng.p with absorption := f 0x46BB8000#32 } } }) (fun t =>
      decide (t.eng.damp.get 2 = .biquad bqNew)) = true ∧
    ends (exec .applyAbsorption { quietBqDraining with eng := { quietBq.eng with
        p := { quietBq.eng.p with absorption := F32.zero } } }) (fun t =>
      decide (t.eng.damp.get 2 = .biquad (bqOf F32.zero F32.zero F32.zero F32.zero F32.zero))) = true := by decide

/-- V74's first output, on filters that are transparent: the delays are still empty, so only the dry half arrives.  The channel
samples are `NUM.tanh(+0) / 1.0`, which `tanh_zero` settles. -/
theorem test_fdnSample :
    ∃ t, exec (.fdnSample (f 0x3F800000#32)) quietRendering = .next t ∧
      t.audioOut = .stereo (f 0x3F000000#32) (f 0x3F000000#32) ∧ t.eng.pre.w = 1 ∧ t.seq = .rendering 1 := by
  have h : ∀ i, (quiet.eng.channelSample quiet.par.num (f 0x3F800000#32) i).2 = F32.zero := by
    intro i
    match i with
    | 0 | 1 | 2 | 3 => exact (congrArg (scProcess _ Config.one) (by decide)).trans (scProcess_zero _ false)
  have hp : (dlProcess quiet.eng.pre (f 0x3F800000#32)).2 = f 0x3F800000#32 := by decide
  refine ⟨_, rfl, ?_, by rfl, by rfl⟩
  show Result.stereo _ _ = _
  simp only [hp, Quad.build, Quad.map, quietRendering, h]
  decide
/-- The table's words of FDN_SAMPLE and SC_PROCESS, run as a RENDER of one sample (logs 3, 24). -/
theorem test_fdnSample_id :
    ends (step (quiet.withFetchWord 8 0x18)) (fun t => decide (t.eng.pre.w = 1) && decide (t.seq = .idle)) = true ∧
    ends (step (quiet.withFetchWord 8 0x61)) (fun t => decide (t.eng.pre.w = 1) && decide (t.seq = .idle)) = true := by decide

/-! ## Witnesses: states and operands that meet the hypotheses of the statements -/

/-- Configured, between two commands, between two blocks, inside a DRAIN and inside a RENDER: the premises `Configured`, `Idle`,
`Between`, `Draining`, `Rendering`, and `During` for each stage. -/
theorem witness_modes :
    State.reset.Configured ∧ State.reset.Idle ∧ State.reset.Between ∧ draining.Between ∧ draining.Draining ∧
    { State.reset with seq := .rendering 3 }.Configured ∧ { State.reset with seq := .rendering 3 }.Rendering ∧
    State.reset.During .command ∧ State.reset.During .part ∧ draining.During .drain ∧ rendering.During .render := by decide

/-- EncodeOfDecode: a command, a message word, and a NaN message word that is not the canonical one. -/
theorem witness_EncodeOfDecode :
    decode (.cmd ⟨0x04#8, []⟩) = .ok .drain ∧
    (decode (.msg 0x07447A0000#40) = .ok (.predelay (f 0x447A0000#32)) ∧ (msgValue 0x07447A0000#40).isNaN = false) ∧
    (decode (.msg 0x05FFC00001#40) = .ok (.drywet .nan) ∧ (msgValue 0x05FFC00001#40).isNaN = true) := by decide

/-- MessageWordLayout: the first and the last reserved tag. -/
theorem witness_MessageWordLayout : 8 ≤ (8#8).toNat ∧ 8 ≤ (255#8).toNat := by decide

/-- StepRunsDecodedCommand, clause by clause. -/
theorem witness_StepRunsDecodedCommand :
    State.reset.pending = [] ∧
    (decode (.cmd ⟨0x04#8, []⟩) = .ok .drain ∧ Instr.drain.wellFormed = true ∧ stage .drain = .command ∧
      { State.reset with pending := [⟨0x04#8, []⟩] }.pending = [⟨0x04#8, []⟩]) ∧
    (decode (.cmd ⟨0x19#8, []⟩) = .ok .rederiveLengths ∧ stage .rederiveLengths ≠ .command) ∧
    (decode (.cmd ⟨0x04#8, [.nat 1]⟩) = .error (.operandMismatch .drain)) ∧
    encode (.dlNew .bench 1) = .cmd ⟨0x20#8, [.line .bench, .nat 1]⟩ ∧ (Instr.dlNew .bench 1).wellFormed = true := by decide
theorem witness_unlisted_id : ∀ o : Opcode, o.id ≠ 0xFF#8 := by intro o; cases o <;> decide

/-- ResetLeavesTableState and ResetFailsExactly: both ends of the legal range, both kinds of filter, rates that fail. -/
theorem witness_Reset :
    (State.reset.seq = .idle ∧ State.powerOn.seq = .unconfigured) ∧
    (∀ sr ∈ [f 0x3F800000#32, f 0x483B8000#32],
      F32.le State.reset.par.srMin sr = true ∧ F32.lt State.reset.par.srMax sr = false ∧
        (State.reset.par.maxDelaySeconds.mul sr).truncToNat + 1 ≤ State.reset.par.lineMemWords) ∧
    (∀ sr ∈ [F32.nan, F32.zero, f 0x3F7FFFFF#32, f 0x483B8001#32],
      ¬ (F32.le State.reset.par.srMin sr = true ∧ F32.lt State.reset.par.srMax sr = false)) ∧
    (quiet.par.Legal ∧ quiet.par.damping = .onePole) ∧ quietBq.par.Legal ∧ quietBq.par.damping = .biquad := by
  exact ⟨⟨by decide, rfl⟩, by decide, by decide, by decide, by decide⟩

/-- UnconfiguredAcceptsOnlyReset. -/
theorem witness_UnconfiguredAcceptsOnlyReset : State.powerOn.cfgOk = false ∧ State.powerOn.seq = .unconfigured := ⟨rfl, rfl⟩

/-- DecayAndPredelaySetters: stable gains; AbsorptionApplied and SettersKeepSound: both kinds of filter. -/
theorem witness_setters :
    (∀ i, StableGain State.reset.par (State.reset.eng.ap.get i).gain) ∧ quietDraining.Draining ∧ quietBqDraining.Draining ∧
    quiet.eng.damp.get 3 = .onePole (opNew State.resetRate) ∧ quietBq.eng.damp.get 3 = .biquad bqNew := by decide
theorem witness_SettersKeepSound :
    (Instr.applyAbsorption.agent = .audio ∧ Instr.applyAbsorption.onComponent = false ∧
      Instr.applyAbsorption.computesSamples = false) ∧
    (stage .applyAbsorption = .drain ∧ stage (.decay F32.zero) = .drain) ∧
    (∃ t, exec .applyAbsorption quietDraining = .next t) ∧ (∃ t, exec .applyAbsorption quietBqDraining = .next t) :=
  ⟨by decide, by decide, ⟨_, rfl⟩, ⟨_, rfl⟩⟩

/-- Enqueue, Dequeue, PublicationSteps: a full and an empty queue, a visible message, copies that are behind. -/
theorem witness_queue :
    (withQueue 0 16 16 0 0).queue.tail - (withQueue 0 16 16 0 0).queue.headSync = 16 ∧
    State.reset.queue.tail - State.reset.queue.headSync ≠ 16 ∧
    State.reset.queue.tailSync = State.reset.queue.head ∧
    (withQueue 0 17 17 16 16).queue.tailSync ≠ (withQueue 0 17 17 16 16).queue.head ∧
    (1 ≤ (withQueue 5 16 8 1 1).par.queueCapacity ∧ (withQueue 5 16 8 1 1).queue.slot.length = 16 ∧
      (withQueue 5 16 8 1 1).queue.QInv (withQueue 5 16 8 1 1).par) ∧
    ((withQueue 0 1 0 0 0).par.cdcLag = .arbitrary ∧ (withQueue 0 1 0 0 0).queue.tailSync < (withQueue 0 1 0 0 0).queue.tail) ∧
    (withQueue 0 1 1 1 0).queue.headSync < (withQueue 0 1 1 1 0).queue.head := by decide
theorem witness_PublicationSteps :
    (∃ t, exec .syncFwd (withQueue 0 1 0 0 0) = .next t) ∧ ∃ t, exec .syncBack (withQueue 0 1 1 1 0) = .next t :=
  ⟨⟨_, rfl⟩, ⟨_, rfl⟩⟩

/-- QueueInvariantKept: each of the four steps from a queue that satisfies `QINV`; a RESET that succeeds. -/
theorem witness_QueueInvariantKept :
    ((withQueue 0 16 8 1 0).queue.QInv Parameters.table ∧ (∃ t, exec (.enq 0) (withQueue 0 8 8 1 0) = .next t) ∧
      (∃ t, exec .syncFwd (withQueue 0 16 8 1 0) = .next t) ∧ (∃ t, exec .syncBack (withQueue 0 16 8 1 0) = .next t) ∧
      ∃ t, exec .deq (withQueue 0 16 8 1 0) = .next t) ∧
    ∃ t, exec (.reset (f 0x3F800000#32)) State.reset = .next t ∧ t.cfgOk = true :=
  ⟨⟨by decide, ⟨_, rfl⟩, ⟨_, rfl⟩, ⟨_, rfl⟩, ⟨_, rfl⟩⟩, ⟨resetState State.reset (f 0x3F800000#32), by rfl, rfl⟩⟩

/-- FifoOrder: two messages sent, both made visible, one taken by DEQ and one by DRAIN. -/
theorem witness_FifoOrder :
    (1 ≤ State.reset.par.queueCapacity ∧ State.reset.queue.slot.length = State.reset.par.queueCapacity) ∧
    (State.reset.queue.tail = State.reset.queue.head ∧ State.reset.queue.tailSync = State.reset.queue.head ∧
      State.reset.queue.headSync = State.reset.queue.head) ∧
    (∀ i ∈ [Instr.enq 5, .enq 6, .syncFwd, .deq, .syncFwd, .drain], i.agent ≠ .host) ∧
    ∃ u, channelRun State.reset [.enq 5, .enq 6, .syncFwd, .deq, .syncFwd, .drain] = some (u, [5, 6], [5, 6]) :=
  ⟨by decide, by decide, by decide, _, rfl⟩

/-- ZeroLagIsImmediateSync. -/
theorem witness_ZeroLagIsImmediateSync :
    ((noLag State.reset).par.cdcLag = .zero ∧ (noLag State.reset).queue.tailSync = (noLag State.reset).queue.tail ∧
      (noLag (withQueue 5 1 1 0 0)).queue.headSync = (noLag (withQueue 5 1 1 0 0)).queue.head) ∧
    (∃ t, exec (.enq 5) (noLag State.reset) = .next t ∧ t.queue.tail ≠ (noLag State.reset).queue.tail) ∧
    (∃ t, exec .deq (noLag (withQueue 5 1 1 0 0)) = .next t ∧ t.queue.head ≠ (withQueue 5 1 1 0 0).queue.head) ∧
    (∃ t, exec .drain (noLag (withQueue 5 1 1 0 0)) = .next t ∧ t.queue.head ≠ (withQueue 5 1 1 0 0).queue.head) ∧
    (∃ t, exec (.callback []) (noLag (withQueue 5 1 1 0 0)) = .next t ∧ t.queue.head ≠ (withQueue 5 1 1 0 0).queue.head) ∧
    ∃ t, exec .drain (noLag State.reset) = .next t ∧ t.queue.head = State.reset.queue.head :=
  ⟨by decide, ⟨_, rfl, by decide⟩, ⟨_, rfl, by decide⟩, ⟨_, rfl, by decide⟩, ⟨_, rfl, by decide⟩, ⟨_, rfl, rfl⟩⟩

/-- DrainAppliesOneMessage: no word, a word of a parameter, and a reserved word, dequeued in DRAINING. -/
theorem witness_DrainAppliesOneMessage :
    (∃ d, exec .deq { State.reset with seq := .draining } = .next d ∧ d.audioOut = .dequeued none) ∧
    (∃ d, exec .deq { withQueue 0x0600000000#40 1 1 0 0 with seq := .draining } = .next d ∧
      d.audioOut = .dequeued (some 0x0600000000#40)) ∧
    (0x0600000000#40).extractLsb' 32 8 = 6#8 ∧ 8#8 ≤ (0x0812345678#40).extractLsb' 32 8 :=
  ⟨⟨_, rfl, rfl⟩, ⟨_, rfl, rfl⟩, by decide, by decide⟩

/-- SampleFollowsSixSteps: both kinds of filter. -/
theorem witness_SampleFollowsSixSteps :
    (quietRendering.cfgOk = true ∧ quietRendering.seq = .rendering 0) ∧
    quietBqRendering.cfgOk = true ∧ quietBqRendering.seq = .rendering 0 := by decide

/-- RenderCommutesWithQueueSteps: an ENQ and a SYNC_FWD beside a RENDER. -/
theorem witness_RenderCommutesWithQueueSteps :
    ((Instr.enq 5).agent = .control ∧ Instr.syncFwd.agent = .cdc) ∧
    (∃ m t, exec (.render []) State.reset = .next m ∧ exec (.enq 5) m = .next t) ∧
    ∃ m t, exec .syncFwd (withQueue 0 1 0 0 0) = .next m ∧ exec (.render []) m = .next t :=
  ⟨by decide, ⟨_, _, rfl, rfl⟩, ⟨_, _, rfl, rfl⟩⟩

/-- ChannelsAreIndependent: two states that differ in the feedback of another channel and in the mix. -/
theorem witness_ChannelsAreIndependent :
    let s := quietRendering
    let t := { quietRendering with eng := { quiet.eng with
      fb := ⟨F32.zero, f 0x3F800000#32, F32.zero, F32.zero⟩, p := { quiet.eng.p with drywet := F32.zero } } }
    (∃ s', exec (.fdnSample F32.zero) s = .next s') ∧ (∃ t', exec (.fdnSample F32.zero) t = .next t') ∧
    s.par.num = t.par.num ∧ (dlProcess s.eng.pre F32.zero).2 = (dlProcess t.eng.pre F32.zero).2 ∧ s.eng.fb.get 0 = t.eng.fb.get 0 ∧
    s.eng.p.hardness = t.eng.p.hardness ∧ s.eng.damp.get 0 = t.eng.damp.get 0 ∧ s.eng.ap.get 0 = t.eng.ap.get 0 ∧
    s.eng.dl.get 0 = t.eng.dl.get 0 ∧ s.eng.fb.get 1 ≠ t.eng.fb.get 1 :=
  ⟨⟨_, rfl⟩, ⟨_, rfl⟩, rfl, rfl, rfl, rfl, rfl, rfl, rfl, by decide⟩

/-- Every line, so that a statement about all lines can be decided. -/
def lines : List LineRef :=
  [.pre, .dl 0, .dl 1, .dl 2, .dl 3, .apIn 0, .apIn 1, .apIn 2, .apIn 3, .apOut 0, .apOut 1, .apOut 2, .apOut 3, .bench,
   .benchApIn, .benchApOut]
theorem mem_lines (l : LineRef) : l ∈ lines := by
  cases l with
  | pre | bench | benchApIn | benchApOut => decide
  | dl i | apIn i | apOut i => revert i; decide

/-- A configured state with transparent filters meets both invariants: the premise of StepKeepsInvariant and of
WholeOperationsKeepLag. -/
theorem witness_WholeInv : WholeInv quiet where
  legal := by decide
  slots := by decide
  latch := by decide
  rate := by decide
  params := by decide
  mixing := by decide
  kinds := by decide
  gains := by decide
  channel := by decide
  copies := by decide
  lines := fun l _ => (by decide : ∀ l ∈ lines, (quiet.line l).Wf) l (mem_lines l)
  benchGain := by decide
  capacity := fun _ l h =>
    (by decide : ∀ l ∈ lines, l.inEngine = true → (quiet.line l).cap = quiet.eng.cap ∧ quiet.eng.cap ≤ quiet.par.lineMemWords)
      l (mem_lines l) h
  lag := fun _ l h => (by decide : ∀ l ∈ lines, l.inEngine = true → (quiet.line l).Lag) l (mem_lines l) h
  paired := by decide
  benchLag := by decide
  benchPaired := by decide
theorem witness_Inv_biquad : Inv quietBq where
  legal := by decide
  slots := by decide
  latch := by decide
  rate := by decide
  params := by decide
  mixing := by decide
  kinds := by decide
  gains := by decide
  channel := by decide
  copies := by decide
  lines := fun l _ => (by decide : ∀ l ∈ lines, (quietBq.line l).Wf) l (mem_lines l)
  capacity := fun _ l h =>
    (by decide : ∀ l ∈ lines, l.inEngine = true →
      (quietBq.line l).cap = quietBq.eng.cap ∧ quietBq.eng.cap ≤ quietBq.par.lineMemWords) l (mem_lines l) h
  benchGain := by decide

theorem witness_StepKeepsInvariant :
    ∃ t, step (quiet.withFetchWord 40 0x067FC00000) = .next t ∧ t.eng.p.width = F32.zero := ⟨_, rfl, rfl⟩
theorem witness_WholeOperationsKeepLag :
    ((Instr.setPredelay (f 0x447A0000#32)).halfOfPair = false ∧
      ∃ t, exec (.setPredelay (f 0x447A0000#32)) quietDraining = .next t) ∧
    ((Instr.apSetDuration (.ap 1) 5).halfOfPair = false ∧ ∃ t, exec (.apSetDuration (.ap 1) 5) quietDraining = .next t) ∧
    ((Instr.dlProcess (.apIn 1) F32.zero).halfOfPair = false ∧
      ∃ t, exec (.dlProcess (.apIn 1) F32.zero) quietRendering = .next t) ∧
    (Instr.dlWrite (.dl 0) F32.zero).halfOfPair = true :=
  ⟨⟨rfl, _, rfl⟩, ⟨rfl, _, rfl⟩, ⟨rfl, _, rfl⟩, rfl⟩

/-- StatusAndConditions: a rate each of RESET's tests refuses and one that passes; a queue that looks full and one that does not. -/
theorem witness_StatusAndConditions :
    (resetFailMet Parameters.table .nan = true ∧ resetFailMet Parameters.table (f 0x483B8000#32) = false ∧
      resetFailMet { Parameters.table with lineMemWords := 2 } (f 0x40000000#32) = true) ∧
    (queueFullMet (withQueue 0 16 16 1 0) = true ∧ queueFullMet (withQueue 0 16 16 1 1) = false) ∧
    (cfgRangeMet .nan F32.zero Config.one = true ∧ cfgRangeMet Config.one F32.zero Config.one = false) ∧
    capRangeMet line4 4 = true ∧ capRangeMet line4 3 = false := by decide

/-- SilenceIsFixedPoint, with one-pole and with biquad filters. -/
theorem witness_SilenceIsFixedPoint :
    (quietRendering.Rendering ∧ quietRendering.par.matrixScale.sign = false) ∧ quietRendering.eng.p.decay.sign = false ∧ (∀ i, quietRendering.eng.fb.get i = F32.zero) ∧
    (∀ l : LineRef, l.inEngine = true → ∀ a, memRead (quietRendering.line l).buf a = F32.zero) ∧
    (∀ i o, quietRendering.eng.damp.get i = .onePole o →
      o.state = F32.zero ∧ o.a0.isFinite = true ∧ o.b1.isFinite = true ∧ o.a0.sign = false) ∧
    (∀ i b, quietBqRendering.eng.damp.get i = .biquad b → b.x1 = F32.zero ∧ b.x2 = F32.zero ∧ b.y1 = F32.zero ∧ b.y2 = F32.zero ∧
      b.b0.isFinite = true ∧ b.b1.isFinite = true ∧ b.b2.isFinite = true ∧ b.a1.isFinite = true ∧ b.a2.isFinite = true ∧
      b.b0.sign = false) := by
  refine ⟨by decide, by decide, by decide, ?_, ?_, ?_⟩
  · intro l h a
    rw [(by decide : ∀ l ∈ lines, l.inEngine = true → (quietRendering.line l).buf = []) l (mem_lines l) h]
    rfl
  · intro i o h
    match i, h with
    | 0, h | 1, h | 2, h | 3, h => cases h; decide
  · intro i b h
    match i, h with
    | 0, h | 1, h | 2, h | 3, h => cases h; decide

/-- OutputStageEnds: `drywet` = 0 and `width` = 0. -/
theorem witness_OutputStageEnds :
    (F32.feq (F32.zeroOf true) F32.zero = true ∧ (f 0x40000000#32).isFinite = true ∧
      ((f 0x3F800000#32).add (f 0x3F800000#32)).isFinite = true ∧ (F32.zero.add F32.zero).isFinite = true ∧
      F32.feq (f 0x3F800000#32) F32.zero = false) ∧
    (let dry := (f 0x3F800000#32).mul (Config.one.sub (f 0x3F000000#32))
     let l := dry.add ((f 0x3F000000#32).mul ((f 0x3F800000#32).add F32.zero))
     let r := dry.add ((f 0x3F000000#32).mul (F32.zero.add F32.zero))
     l.isFinite = true ∧ r.isFinite = true ∧ (l.add r).isFinite = true ∧ (l.sub r).isFinite = true) := by decide

/-- The line statements: lines in range and in canonical form, of the engine and of the bench; a line of one word; `LAG`;
transparency; the stages of the engine's lines, of the stand-alone line and of the lines of the stand-alone allpass. -/
theorem witness_lines :
    (draining.During (LineRef.stage .pre .drain) ∧ rendering.During (LineRef.stage (.apOut 3) .render) ∧
      State.reset.During (LineRef.stage .bench .drain) ∧ State.reset.During (LineRef.stage .benchApIn .render)) ∧
    (State.reset.line .bench).Wf ∧ (State.reset.line (.dl 3)).Wf ∧ line4.Wf ∧ line4.Lag ∧ 2 ≤ line4.cap ∧
    (dlNew 1).Wf ∧ (dlNew 1).Lag ∧ (dlNew 1).dur = 0 ∧ (dlSetDuration line4 0).Wf ∧ (dlSetDuration line4 0).Lag ∧
    (dlSetDuration line4 0).dur = 0 ∧ LineRef.pre ≠ LineRef.bench :=
  ⟨⟨admits_iff.mp rfl, admits_iff.mp rfl, admits_iff.mp rfl, admits_iff.mp rfl⟩, by decide⟩
/-- DelayLaw: a block that is not empty, the shortest line. -/
theorem witness_DelayLaw :
    (lineAfter (dlNew 1) []).dur ≤ (lineInputs []).length ∧
    ¬ (lineAfter (dlNew 4) [.setDuration 2, .process F32.zero]).dur ≤ (lineInputs [.setDuration 2, .process F32.zero]).length := by
  decide

/-- BiquadBoundaries and BiquadFormulas: each clause at the ends of its range; the first two exclude each other. -/
theorem witness_Biquad :
    F32.le (f 0x3F800000#32) (f 0x3F800000#32) = true ∧ F32.lt F32.zero F32.zero = false ∧ F32.lt F32.zero .nan = false ∧
    (F32.lt F32.zero (f 0x00000001#32) = true ∧ F32.lt (f 0x3F7FFFFF#32) (f 0x3F800000#32) = true) ∧
    F32.lt F32.zero (f 0x80000000#32) = false ∧ F32.lt F32.zero (f 0x3A800000#32) = true ∧ Parameters.table.Legal :=
  ⟨by decide, by decide, by decide, by decide, by decide, by decide, test_table_legal⟩
/-- BiquadSettersKeepHistory, BiquadProcessing and OnePoleOperations: a filter that is there and one that is not. -/
theorem witness_filters :
    (quietBq.Configured ∧ quietBqDraining.During (FilterRef.stage (.damp 0) .drain) ∧
      quietBqRendering.During (FilterRef.stage (.damp 0) .render) ∧ quietBq.During (FilterRef.stage .bench .drain)) ∧
    quietBq.biquad (.damp 0) = some bqNew ∧ State.reset.biquad .bench = some bqNew ∧
    quiet.biquad (.damp 0) = none ∧ quiet.onePole (.damp 0) = some (opNew State.resetRate) ∧
    quietBq.onePole (.damp 0) = none ∧ FilterRef.bench ≠ FilterRef.damp 0 :=
  ⟨⟨by decide, admits_iff.mp rfl, admits_iff.mp rfl, admits_iff.mp rfl⟩, by decide⟩
/-- OnePoleCoefficientRange: the ends of the legal sample rates, a frequency that is not positive. -/
theorem witness_OnePoleCoefficientRange :
    F32.le (f 0x3F800000#32) (f 0x3F800000#32) = true ∧ F32.le (f 0x483B8000#32) (f 0x483B8000#32) = true ∧ F32.lt F32.zero .nan = false := by decide

/-- AllpassSetup, AllpassProcessing, AllpassDifferenceEquation: the least capacities, lines in range. -/
theorem witness_Allpass :
    State.reset.Configured ∧ (draining.During (ApRef.stage (.ap 3) .drain) ∧ rendering.During (ApRef.stage (.ap 3) .render) ∧
      State.reset.During (ApRef.stage .bench .drain)) ∧ (1 : Nat) < 2 ∧ (2 : Nat) ≤ 2 ∧ ApRef.ap 3 ≠ ApRef.bench ∧
    (State.reset.allpass .bench).inLine.Wf ∧ (State.reset.allpass (.ap 3)).inLine.Wf ∧ (State.reset.allpass (.ap 3)).outLine.Wf :=
  ⟨by decide, ⟨admits_iff.mp rfl, admits_iff.mp rfl, admits_iff.mp rfl⟩, by decide⟩

/-- SoftclipBoundedAndMonotone: both ends of the legal hardness. -/
theorem witness_Softclip :
    (let lo := f 0x3A800000#32; let hi := f 0x44800000#32; Within lo lo hi ∧ Within hi lo hi) ∧
    (F32.inf true).isNaN = false ∧ ((f 0x3F800000#32).mul (f 0x44800000#32)).isFinite = true ∧
    F32.le (f 0xBF800000#32) (f 0x3F800000#32) = true := by decide

/-- CoprimeGuarantees and CoprimeFirstAcceptable: the least start and the least factor. -/
theorem witness_Coprime :
    2 ≤ 2 ∧ (f 0x3F800000#32).isFinite = true ∧ F32.le Config.one (f 0x3F800000#32) = true ∧
    (∀ k, k < 3 → coprimeCandidate (f 0x3F800000#32) 2 k < 16777216) ∧
    ∀ j, j < 3 → 1 ≤ coprimeCandidate (f 0x3F800000#32) 1 j := by decide
/-- UtilsArePure: orders that are and are not powers of two; HadamardOrthogonal: two rows. -/
theorem witness_Hadamard : hadamard 0 = none ∧ (4 : Nat) = 2 ^ 2 ∧ (3 : Nat) < 2 ^ 2 := by decide

/-- ClampIsTotal, ConversionsRound, AdditionRounds and ProductsRound. -/
theorem witness_numerics :
    (F32.zero.isFinite = true ∧ Config.one.isFinite = true ∧ F32.le F32.zero Config.one = true ∧
      F32.le F32.zero (f 0xBF800000#32) = false ∧ F32.lt Config.one (.inf false) = true ∧ Within Config.half F32.zero Config.one) ∧
    (F32.le F32.zero (f 0x4EFFFFFF#32) = true ∧ F32.lt (f 0x4EFFFFFF#32) (f 0x4F000000#32) = true ∧ F32.le F32.zero .nan = false ∧
      F32.le (f 0x4F000000#32) (f 0x4F000000#32) = true) ∧
    ((f 0x3F800000#32).isFinite = true ∧ (f 0xBF800000#32).isFinite = true) := by decide
theorem witness_toRat : (f 0x3F800000#32).toRat + (f 0xBF800000#32).toRat = 0 ∧ (f 0x3F800000#32).toRat = 1 := by
  have h1 : (f 0x3F800000#32).scaled = 2 ^ 149 := by decide
  have h2 : (f 0xBF800000#32).scaled = -2 ^ 149 := by decide
  unfold F32.toRat
  rw [h1, h2]
  norm_num

/-- EveryOperationCompletes: filters of the kind an operation needs, copies that are behind. -/
theorem witness_EveryOperationCompletes :
    (stage (.bqSetNotch (.damp 0) Config.half Config.one) = .drain ∧ quietBqDraining.During .drain ∧
      (Instr.bqSetNotch (.damp 0) Config.half Config.one).needsFilter = some (.damp 0, .biquad) ∧
      (quietBqDraining.biquad (.damp 0)).isSome = true) ∧
    (stage (.opProcess (.damp 0) F32.zero) = .render ∧ quietRendering.During .render ∧
      (Instr.opProcess (.damp 0) F32.zero).needsFilter = some (.damp 0, .onePole) ∧
      (quietRendering.onePole (.damp 0)).isSome = true) ∧
    (stage .syncFwd = .command ∧ (withQueue 0 1 0 0 0).Idle ∧ (withQueue 0 1 0 0 0).par.cdcLag = .arbitrary ∧
      (withQueue 0 1 0 0 0).queue.tailSync < (withQueue 0 1 0 0 0).queue.tail) ∧
    (stage (.setSize F32.zero) = .drain ∧ draining.During .drain) ∧ (stage (.fdnSample F32.zero) = .render ∧ rendering.During .render) ∧
    (stage (.dlRead .benchApOut) = .part ∧ State.reset.During .part) ∧
    (withQueue 0 1 1 1 0).queue.headSync < (withQueue 0 1 1 1 0).queue.head ∧ stage (.apNew .bench 2 F32.zero) = .command ∧
    (Instr.apNew .bench 2 F32.zero).wellFormed = true := by
  decide

/-- AgentsKeepToTheirState and OnlyNamedOperationsWrite: a step of each agent. -/
theorem witness_agents :
    ((Instr.enq 5).agent = .control ∧ ∃ t, exec (.enq 5) quiet = .next t) ∧
    (Instr.syncFwd.agent = .cdc ∧ ∃ t, exec .syncFwd (withQueue 0 1 0 0 0) = .next t) ∧
    (Instr.deq.agent = .audio ∧ Instr.deq.mayWriteParams = false ∧ Instr.deq.mayWriteLengths = false ∧
      Instr.deq.computesSamples = false ∧ Instr.deq.mayWriteSamples = false ∧ ∃ t, exec .deq quiet = .next t) ∧
    ((Instr.reset F32.nan).agent = .host ∧ ∃ t, exec (.reset F32.nan) quiet = .next t) :=
  ⟨⟨rfl, _, rfl⟩, ⟨rfl, _, rfl⟩, ⟨rfl, rfl, rfl, rfl, rfl, _, rfl⟩, ⟨rfl, _, rfl⟩⟩

end Sys2Proof.Tests
end

section
/-!
SUPPORT. The 31-bit magnitude codes of binary32 (exponent field and fraction in one natural number): the magnitude a code stands
for, its strict growth, and what it means for a code to be the nearest one to a real number, ties to even.
-/

namespace Sys2Proof.F32

/-- The magnitude, in units of `2^-149`, that the code `c` stands for.  Codes from `255 * 2^23` on are no finite value; the formula
continues past them as if the exponent range did not end. -/
def codeUnits (c : Nat) : Nat :=
  (if c / 8388608 = 0 then c % 8388608 else 8388608 + c % 8388608) * 2 ^ (c / 8388608 - 1)

/-- The value with the given sign and magnitude code; an infinity from the first code past the finite ones on. -/
def ofCode (neg : Bool) (c : Nat) : F32 :=
  if h : c < 255 * 8388608 then
    .finite neg ⟨c / 8388608, by omega⟩ ⟨c % 8388608, Nat.mod_lt _ (by decide)⟩
  else .inf neg

/-- The code `roundQuot` computes. -/
def roundCode (num den : Nat) : Nat :=
  spacing (num / den) * 8388608 + nearestEven num (den * 2 ^ spacing (num / den))

theorem roundQuot_eq_ofCode (neg : Bool) (num den : Nat) : roundQuot neg num den = ofCode neg (roundCode num den) := rfl

/-! ## The magnitudes of the codes -/

/-- A code of `m` units of spacing `2^s`, normalised: both ends of the binade included. -/
theorem codeUnits_spacing {s m : Nat} (hm : m ≤ 16777216) (h : s = 0 ∨ 8388608 ≤ m) :
    codeUnits (s * 8388608 + m) = m * 2 ^ s := by
  have hdiv : (s * 8388608 + m) / 8388608 = s + m / 8388608 := by omega
  have hmod : (s * 8388608 + m) % 8388608 = m % 8388608 := by omega
  rw [codeUnits, hdiv, hmod]
  obtain hlow | hmid | htop : m < 8388608 ∨ (8388608 ≤ m ∧ m < 16777216) ∨ m = 16777216 := by omega
  · obtain rfl : s = 0 := by omega
    have hq : m / 8388608 = 0 := by omega
    simp [hq, Nat.mod_eq_of_lt hlow]
  · have hq : m / 8388608 = 1 := by omega
    have hr : 8388608 + m % 8388608 = m := by omega
    simp [hq, hr]
  · subst htop
    rw [if_neg (by omega), show s + 16777216 / 8388608 - 1 = s + 1 by omega, pow_succ]
    omega

/-- The gap between a code's magnitude and the next one's. -/
theorem codeUnits_succ (c : Nat) : codeUnits (c + 1) = codeUnits c + 2 ^ (c / 8388608 - 1) := by
  obtain ⟨s, m, hc, hm, h⟩ : ∃ s m, c = s * 8388608 + m ∧ m < 16777216 ∧ (s = 0 ∨ 8388608 ≤ m) := by
    rcases Nat.lt_or_ge c 8388608 with hlt | hge
    · exact ⟨0, c, by omega, by omega, .inl rfl⟩
    · exact ⟨c / 8388608 - 1, 8388608 + c % 8388608, by omega, by omega, .inr (by omega)⟩
  have hs : c / 8388608 - 1 = s := by omega
  rw [hs, hc, add_assoc, codeUnits_spacing (by omega) (by omega), codeUnits_spacing (by omega) h, Nat.add_mul, one_mul]

theorem codeUnits_strictMono : StrictMono codeUnits :=
  strictMono_nat_of_lt_succ fun c => by rw [codeUnits_succ]; have := Nat.two_pow_pos (c / 8388608 - 1); omega

@[simp] theorem codeUnits_zero : codeUnits 0 = 0 := rfl

/-- From the third binade on every magnitude is even. -/
theorem codeUnits_even {c : Nat} (h : 16777216 ≤ c) : Even (codeUnits c) := by
  rw [codeUnits, Nat.even_mul]
  exact .inr ((Nat.even_pow' (by omega)).mpr even_two)

/-- The magnitude of a finite value is its code's. -/
theorem magnitude_eq_codeUnits (e : Fin 255) (f : Fin 8388608) : magnitude e f = codeUnits (e.val * 8388608 + f.val) := by
  have hf := f.isLt
  rw [magnitude, significand, codeUnits, show (e.val * 8388608 + f.val) / 8388608 = e.val by omega,
    show (e.val * 8388608 + f.val) % 8388608 = f.val by omega]

/-- Every finite value is the one of its sign and code. -/
theorem finite_eq_ofCode (neg : Bool) (e : Fin 255) (f : Fin 8388608) :
    finite neg e f = ofCode neg (e.val * 8388608 + f.val) := by
  have he := e.isLt
  have hf := f.isLt
  rw [ofCode, dif_pos (by omega)]
  congr
  · simp only [Fin.ext_iff]; omega
  · simp only [Fin.ext_iff]; omega

theorem exists_finite_of_isFinite {a : F32} (h : a.isFinite = true) : ∃ neg e f, a = finite neg e f := by
  cases a with
  | finite neg e f => exact ⟨neg, e, f, rfl⟩
  | inf _ | nan => simp [isFinite] at h

theorem exists_code_of_isFinite {a : F32} (h : a.isFinite = true) :
    ∃ neg c, c < 255 * 8388608 ∧ a = ofCode neg c := by
  obtain ⟨neg, e, f, rfl⟩ := exists_finite_of_isFinite h
  exact ⟨neg, _, by omega, finite_eq_ofCode neg e f⟩

/-! ## What a value of a code is -/

@[simp] theorem ofCode_sign (neg : Bool) (c : Nat) : (ofCode neg c).sign = neg := by
  rw [ofCode]; split <;> rfl

theorem ofCode_inf {neg : Bool} {c : Nat} (h : 255 * 8388608 ≤ c) : ofCode neg c = .inf neg := dif_neg (by omega)

theorem ofCode_isFinite {neg : Bool} {c : Nat} (h : c < 255 * 8388608) : (ofCode neg c).isFinite = true := by
  rw [ofCode, dif_pos h]; rfl

theorem ofCode_evenFraction {neg : Bool} {c : Nat} (h : c < 255 * 8388608) (hc : Even c) : (ofCode neg c).evenFraction = true := by
  rw [Nat.even_iff] at hc
  rw [ofCode, dif_pos h, evenFraction, beq_iff_eq]
  show c % 8388608 % 2 = 0
  omega

/-- `+1` or `-1`, the factor a sign bit stands for. -/
def signFactor (neg : Bool) : Int := if neg then -1 else 1

theorem ofCode_magnitude {c : Nat} (hc : c < 255 * 8388608) :
    magnitude ⟨c / 8388608, by omega⟩ ⟨c % 8388608, by omega⟩ = codeUnits c := by
  rw [magnitude_eq_codeUnits, Nat.div_add_mod']

theorem ofCode_scaled {neg : Bool} {c : Nat} (h : c < 255 * 8388608) :
    (ofCode neg c).scaled = signFactor neg * (codeUnits c : Int) := by
  rw [ofCode, dif_pos h, scaled, ofCode_magnitude h, signFactor]
  cases neg <;> simp

theorem ofCode_toRat {neg : Bool} {c : Nat} (h : c < 255 * 8388608) :
    ((ofCode neg c).toRat : ℝ) = (signFactor neg : ℝ) * codeUnits c / 2 ^ 149 := by
  rw [toRat, ofCode_scaled h]
  push_cast
  ring

/-! ## The nearest code -/

/-- The code `c` is the nearest one to `x` units, ties to even: `x` lies between the midpoints of `c`'s magnitude and its
neighbours', and on one of them only when `c` is even. -/
structure Nearest (c : Nat) (x : ℝ) : Prop where
  le_upper : 2 * x ≤ codeUnits c + codeUnits (c + 1)
  even_of_upper : 2 * x = codeUnits c + codeUnits (c + 1) → Even c
  lower_le : ∀ b, b + 1 = c → (codeUnits b + codeUnits c : ℝ) ≤ 2 * x
  even_of_lower : ∀ b, b + 1 = c → (codeUnits b + codeUnits c : ℝ) = 2 * x → Even c

theorem codeUnits_cast_le {c d : Nat} (h : c ≤ d) : (codeUnits c : ℝ) ≤ codeUnits d :=
  Nat.cast_le.mpr (codeUnits_strictMono.monotone h)

theorem codeUnits_cast_lt {c d : Nat} (h : c < d) : (codeUnits c : ℝ) < codeUnits d :=
  Nat.cast_lt.mpr (codeUnits_strictMono h)

/-- A greater magnitude than the nearest one lies beyond the midpoint; on it only at a tie, which goes to the even code. -/
theorem Nearest.above {c d : Nat} {x : ℝ} (h : Nearest c x) (hd : c < d) :
    2 * x ≤ codeUnits c + codeUnits d ∧ (2 * x = codeUnits c + codeUnits d → Even c) := by
  have hle := codeUnits_cast_le (show c + 1 ≤ d from hd)
  have hup := h.le_upper
  exact ⟨by linarith, fun he => h.even_of_upper (by linarith)⟩

theorem Nearest.below {c d : Nat} {x : ℝ} (h : Nearest c x) (hd : d < c) :
    (codeUnits d + codeUnits c : ℝ) ≤ 2 * x ∧ ((codeUnits d + codeUnits c : ℝ) = 2 * x → Even c) := by
  obtain ⟨b, rfl⟩ : ∃ b, b + 1 = c := ⟨c - 1, by omega⟩
  have hle := codeUnits_cast_le (show d ≤ b by omega)
  have hlow := h.lower_le b rfl
  exact ⟨by linarith, fun he => h.even_of_lower b rfl (by linarith)⟩

/-- No other magnitude is nearer. -/
theorem Nearest.abs_sub_le {c : Nat} {x : ℝ} (h : Nearest c x) (d : Nat) : |codeUnits c - x| ≤ |codeUnits d - x| := by
  rcases lt_trichotomy d c with hlt | rfl | hgt
  · have hv := codeUnits_cast_lt hlt
    have hm := (h.below hlt).1
    rw [abs_le]
    have := neg_abs_le ((codeUnits d : ℝ) - x)
    constructor <;> linarith
  · exact le_refl _
  · have hv := codeUnits_cast_lt hgt
    have hm := (h.above hgt).1
    rw [abs_le]
    have := le_abs_self ((codeUnits d : ℝ) - x)
    constructor <;> linarith

/-- Another magnitude is as near only at a tie, which goes to the even code. -/
theorem Nearest.even_of_tie {c d : Nat} {x : ℝ} (h : Nearest c x) (hd : d ≠ c)
    (ht : |(codeUnits d : ℝ) - x| = |codeUnits c - x|) : Even c := by
  have hsum : (codeUnits d + codeUnits c : ℝ) = 2 * x := by
    rcases abs_eq_abs.mp ht with he | he
    · exact absurd (codeUnits_strictMono.injective (Nat.cast_injective (R := ℝ) (by linarith))) hd
    · linarith
  rcases Nat.lt_or_gt_of_ne hd with hlt | hgt
  · exact (h.below hlt).2 hsum
  · exact (h.above hgt).2 (by linarith)

/-- Rounding is monotone. -/
theorem Nearest.mono {c d : Nat} {x y : ℝ} (hc : Nearest c x) (hd : Nearest d y) (h : x ≤ y) : c ≤ d := by
  by_contra hlt
  rw [not_le] at hlt
  obtain ⟨hlow, hlowEven⟩ := hc.below hlt
  obtain ⟨hup, hupEven⟩ := hd.above hlt
  have hce := hlowEven (by linarith)
  have hde := hupEven (by linarith)
  -- both ends of the gap are even, so a code lies strictly between, and no real number is that near to both ends
  obtain ⟨m, hm⟩ := hce
  obtain ⟨k, hk⟩ := hde
  have hbelow := (hc.below (show d + 1 < c by omega)).1
  have := codeUnits_cast_lt (show d < d + 1 by omega)
  linarith

/-! ## A rounded quotient is nearest -/

/-- The two ways a quotient is rounded to a natural. -/
theorem nearestEven_cases (num den : Nat) :
    (nearestEven num den = num / den ∧ 2 * (num % den) ≤ den ∧ (2 * (num % den) = den → num / den % 2 = 0)) ∨
    (nearestEven num den = num / den + 1 ∧ den ≤ 2 * (num % den) ∧ (2 * (num % den) = den → num / den % 2 = 1)) := by
  simp only [nearestEven]
  split <;> omega

/-- The whole number of spacings in a quotient fits a significand. -/
theorem quotient_spacings (q : Nat) :
    q / 2 ^ spacing q < 16777216 ∧ (spacing q = 0 ∨ 8388608 ≤ q / 2 ^ spacing q) := by
  rcases eq_or_ne q 0 with rfl | hq
  · simp [spacing]
  have hlow := Nat.log2_self_le hq
  have hhigh := Nat.lt_log2_self (n := q)
  rcases Nat.lt_or_ge (Nat.log2 q) 24 with h | h
  · have hs : spacing q = 0 := by rw [spacing]; omega
    have := Nat.pow_le_pow_right (n := 2) (by decide) (show q.log2 + 1 ≤ 24 by omega)
    rw [hs]
    exact ⟨by simpa using lt_of_lt_of_le hhigh this, .inl rfl⟩
  · have hs : q.log2 = 23 + spacing q := by rw [spacing]; omega
    rw [hs, pow_add] at hlow
    rw [hs, show 23 + spacing q + 1 = 24 + spacing q by omega, pow_add] at hhigh
    exact ⟨Nat.div_lt_of_lt_mul (by linarith), .inr ((Nat.le_div_iff_mul_le (Nat.two_pow_pos _)).mpr hlow)⟩

/-- Rounding down: the code of `m` spacings is nearest to `m + t` of them for a fraction `t` up to a half. -/
theorem nearest_of_fraction_low {s m : Nat} {t : ℝ} (hm : m < 16777216) (hs : s = 0 ∨ 8388608 ≤ m) (h0 : 0 ≤ t) (h1 : t ≤ 1 / 2)
    (htie : t = 1 / 2 → m % 2 = 0) : Nearest (s * 8388608 + m) ((m + t) * 2 ^ s) := by
  have hpow : (0 : ℝ) < 2 ^ s := by positivity
  have hlow : (codeUnits (s * 8388608 + m) : ℝ) = m * 2 ^ s := by rw [codeUnits_spacing (by omega) hs]; push_cast; rfl
  have hhigh : (codeUnits (s * 8388608 + m + 1) : ℝ) = (m + 1) * 2 ^ s := by
    rw [add_assoc, codeUnits_spacing (by omega) (by omega)]; push_cast; rfl
  have hbelow : ∀ b, b + 1 = s * 8388608 + m → (codeUnits b + codeUnits (s * 8388608 + m) : ℝ) < 2 * ((m + t) * 2 ^ s) := by
    intro b hb
    have := codeUnits_cast_lt (show b < s * 8388608 + m by omega)
    nlinarith
  refine ⟨by rw [hlow, hhigh]; nlinarith, fun he => ?_, fun b hb => (hbelow b hb).le, fun b hb he => absurd he (hbelow b hb).ne⟩
  rw [hlow, hhigh] at he
  have := htie (mul_right_cancel₀ hpow.ne' (by linarith))
  rw [Nat.even_iff]; omega

/-- Rounding up, for a fraction from a half on. -/
theorem nearest_of_fraction_high {s m : Nat} {t : ℝ} (hm : m < 16777216) (hs : s = 0 ∨ 8388608 ≤ m) (h0 : 1 / 2 ≤ t) (h1 : t < 1)
    (htie : t = 1 / 2 → m % 2 = 1) : Nearest (s * 8388608 + (m + 1)) ((m + t) * 2 ^ s) := by
  have hpow : (0 : ℝ) < 2 ^ s := by positivity
  have hlow : (codeUnits (s * 8388608 + m) : ℝ) = m * 2 ^ s := by rw [codeUnits_spacing (by omega) hs]; push_cast; rfl
  have hhigh : (codeUnits (s * 8388608 + (m + 1)) : ℝ) = (m + 1) * 2 ^ s := by
    rw [codeUnits_spacing (by omega) (by omega)]; push_cast; rfl
  have habove : 2 * ((m + t) * 2 ^ s) < (codeUnits (s * 8388608 + (m + 1)) + codeUnits (s * 8388608 + (m + 1) + 1) : ℝ) := by
    have := codeUnits_cast_lt (Nat.lt_succ_self (s * 8388608 + (m + 1)))
    nlinarith
  refine ⟨habove.le, fun he => absurd he habove.ne, fun b hb => ?_, fun b hb he => ?_⟩ <;>
    obtain rfl : b = s * 8388608 + m := by omega
  · rw [hlow, hhigh]; nlinarith
  · rw [hlow, hhigh] at he
    have := htie (mul_right_cancel₀ hpow.ne' (by linarith))
    rw [Nat.even_iff]; omega

/-- The code a quotient is rounded to is the nearest one. -/
theorem roundCode_nearest (num : Nat) {den : Nat} (hden : 0 < den) : Nearest (roundCode num den) (num / den : ℝ) := by
  obtain ⟨hm, hs⟩ := quotient_spacings (num / den)
  have hcases := nearestEven_cases num (den * 2 ^ spacing (num / den))
  rw [Nat.div_div_eq_div_mul] at hm hs
  unfold roundCode
  generalize spacing (num / den) = s at *
  have hD : 0 < den * 2 ^ s := Nat.mul_pos hden (Nat.two_pow_pos s)
  have hsplit := Nat.div_add_mod num (den * 2 ^ s)
  have hrem := Nat.mod_lt num hD
  generalize num / (den * 2 ^ s) = m at *
  generalize num % (den * 2 ^ s) = r at *
  have hDR : (0 : ℝ) < (den * 2 ^ s : ℕ) := Nat.cast_pos.mpr hD
  have hx : (num / den : ℝ) = (m + r / (den * 2 ^ s : ℕ)) * 2 ^ s := by
    have := (Nat.cast_pos (α := ℝ)).mpr hden
    rw [← hsplit]; push_cast; field_simp
  have hhalf : (r / (den * 2 ^ s : ℕ) : ℝ) = 1 / 2 → 2 * r = den * 2 ^ s := fun h => by
    rw [div_eq_div_iff hDR.ne' two_ne_zero] at h
    have : r * 2 = 1 * (den * 2 ^ s) := by exact_mod_cast h
    omega
  rw [hx]
  rcases hcases with ⟨hne, hle, htie⟩ | ⟨hne, hle, htie⟩ <;> rw [hne]
  · refine nearest_of_fraction_low hm hs (by positivity) ?_ fun h => htie (hhalf h)
    rw [div_le_div_iff₀ hDR two_pos]
    exact_mod_cast (by omega : r * 2 ≤ 1 * (den * 2 ^ s))
  · refine nearest_of_fraction_high hm hs ?_ ?_ fun h => htie (hhalf h)
    · rw [div_le_div_iff₀ two_pos hDR]
      exact_mod_cast (by omega : 1 * (den * 2 ^ s) ≤ r * 2)
    · rw [div_lt_one hDR]
      exact_mod_cast hrem

end Sys2Proof.F32
end

section
/-!
SUPPORT. Correct rounding (`00_scope.md` R5, R7): the value of a nearest code is the real number rounded, and so the results of `+`,
`-`, `*`, `/`, `sqrt` and `toF32` are.
-/

namespace Sys2Proof.F32

/-! ## The end of the range -/

theorem codeUnits_lastFinite : codeUnits (255 * 8388608 - 1) = 16777215 * 2 ^ 253 :=
  codeUnits_spacing (s := 253) (m := 16777215) (by decide) (.inr (by decide))

theorem codeUnits_firstInfinite : codeUnits (255 * 8388608) = 16777216 * 2 ^ 253 :=
  codeUnits_spacing (s := 253) (m := 16777216) (by decide) (.inr (by decide))

/-- The nearest code is a finite value's exactly below the midpoint past the last one, `2^128 - 2^103` in units. -/
theorem Nearest.finite_iff {c : Nat} {x : ℝ} (h : Nearest c x) : c < 255 * 8388608 ↔ x < (2 ^ 128 - 2 ^ 103) * 2 ^ 149 := by
  have hlast : (codeUnits (255 * 8388608 - 1) : ℝ) = 16777215 * 2 ^ 253 := by rw [codeUnits_lastFinite]; norm_num
  have hfirst : (codeUnits (255 * 8388608) : ℝ) = 16777216 * 2 ^ 253 := by rw [codeUnits_firstInfinite]; norm_num
  constructor
  · intro hc
    obtain ⟨hle, heven⟩ := h.above hc
    have hcl := codeUnits_cast_le (show c ≤ 255 * 8388608 - 1 by omega)
    by_contra hx
    have hce : c = 255 * 8388608 - 1 := by
      by_contra hne
      have := codeUnits_cast_lt (show c < 255 * 8388608 - 1 by omega)
      linarith
    exact absurd (heven (by linarith)) (by rw [hce]; decide)
  · intro hx
    by_contra hc
    have hle := (h.below (show 255 * 8388608 - 1 < c by omega)).1
    have hcl := codeUnits_cast_le (show 255 * 8388608 ≤ c by omega)
    linarith

/-! ## Distances of signed values -/

@[simp] theorem signFactor_false : signFactor false = 1 := rfl
@[simp] theorem signFactor_true : signFactor true = -1 := rfl

theorem signFactor_bne (s t : Bool) : signFactor (s != t) = signFactor s * signFactor t := by cases s <;> cases t <;> rfl

/-- The distance of two signed values, seen from the second one's side of zero. -/
theorem abs_signed_sub (s t : Bool) (v x : ℝ) :
    |(signFactor t : ℝ) * v / 2 ^ 149 - signFactor s * x / 2 ^ 149| = |(if t = s then v else -v) - x| / 2 ^ 149 := by
  rw [← sub_div, abs_div, abs_of_pos (show (0 : ℝ) < 2 ^ 149 by positivity)]
  congr 1
  cases s <;> cases t <;> simp <;> rw [← abs_neg] <;> congr 1 <;> ring

/-- The nearest magnitude is nearest among signed ones too, for a number of its own sign. -/
theorem Nearest.abs_sub_le_neg {c : Nat} {x : ℝ} (h : Nearest c x) (hx : 0 ≤ x) (d : Nat) :
    |codeUnits c - x| ≤ |-(codeUnits d : ℝ) - x| ∧
    (|-(codeUnits d : ℝ) - x| = |codeUnits c - x| → d ≠ 0 ∨ c ≠ 0 → Even c) := by
  have hd : (0 : ℝ) ≤ codeUnits d := Nat.cast_nonneg _
  have h0 := h.abs_sub_le 0
  have hfar : |-(codeUnits d : ℝ) - x| = codeUnits d + x := by
    rw [abs_of_nonpos (by linarith)]; ring
  have hzero : |(codeUnits 0 : ℝ) - x| = x := by
    rw [codeUnits_zero, Nat.cast_zero, zero_sub, abs_neg, abs_of_nonneg hx]
  rw [hfar]
  refine ⟨by linarith, fun he hne => ?_⟩
  have hd0 : d = 0 := by
    have : (codeUnits d : ℝ) = codeUnits 0 := by rw [codeUnits_zero, Nat.cast_zero]; linarith
    exact codeUnits_strictMono.injective (Nat.cast_injective this)
  exact h.even_of_tie (d := 0) (by omega) (by rw [hzero, ← he, hd0, codeUnits_zero]; simp)

/-- The value of a nearest code is the real number correctly rounded. -/
theorem Nearest.roundsTo {c : Nat} {x : ℝ} (h : Nearest c x) (hx : 0 ≤ x) (neg : Bool) :
    (ofCode neg c).RoundsTo (signFactor neg * x / 2 ^ 149) := by
  have habs : |(signFactor neg : ℝ) * x / 2 ^ 149| = x / 2 ^ 149 := by
    rw [abs_div, abs_mul, abs_of_nonneg hx, abs_of_pos (show (0 : ℝ) < 2 ^ 149 by positivity)]
    cases neg <;> simp
  have hpow : (0 : ℝ) < 2 ^ 149 := by positivity
  have hnonneg : 0 ≤ x / 2 ^ 149 := by positivity
  have hinf : 2 ^ 128 - 2 ^ 103 ≤ x / 2 ^ 149 → 255 * 8388608 ≤ c := fun hle =>
    not_lt.mp (h.finite_iff.not.mpr (not_lt.mpr ((le_div_iff₀ hpow).mp hle)))
  refine ⟨fun hr => ?_, fun hr => ?_, fun hr => ?_⟩
  · rw [habs, div_lt_iff₀ hpow] at hr
    have hc := h.finite_iff.mpr hr
    refine ⟨ofCode_isFinite hc, fun z hz => ?_⟩
    obtain ⟨t, d, hd, rfl⟩ := exists_code_of_isFinite hz
    rw [ne_eq, ← Rat.cast_inj (α := ℝ), ofCode_toRat hc, ofCode_toRat hd, abs_signed_sub, abs_signed_sub, if_pos rfl,
      div_le_div_iff_of_pos_right hpow, div_left_inj' hpow.ne', div_left_inj' hpow.ne']
    split
    · rename_i hts
      subst hts
      exact ⟨h.abs_sub_le d, fun he hne => ofCode_evenFraction hc (h.even_of_tie (fun hdc => hne (by rw [hdc])) he)⟩
    · obtain ⟨hle, heven⟩ := h.abs_sub_le_neg hx d
      refine ⟨hle, fun he hne => ofCode_evenFraction hc (heven he ?_)⟩
      by_contra hzero
      obtain ⟨rfl, rfl⟩ : d = 0 ∧ c = 0 := by omega
      exact hne (by simp)
  · cases neg with
    | false => exact ofCode_inf (hinf (by simpa using hr))
    | true =>
      rw [signFactor_true, Int.cast_neg, Int.cast_one, neg_one_mul, neg_div] at hr
      linarith
  · cases neg with
    | true =>
      rw [signFactor_true, Int.cast_neg, Int.cast_one, neg_one_mul, neg_div] at hr
      exact ofCode_inf (hinf (by linarith))
    | false =>
      rw [signFactor_false, Int.cast_one, one_mul] at hr
      linarith

theorem roundQuot_roundsTo (neg : Bool) (num : Nat) {den : Nat} (h : 0 < den) :
    (roundQuot neg num den).RoundsTo (signFactor neg * (num / den) / 2 ^ 149) :=
  (roundCode_nearest num h).roundsTo (by positivity) neg

end Sys2Proof.F32
end

section
/-!
SUPPORT. Addition (`00_scope.md` R5) on finite values, and the settlement of its obligation.
-/

namespace Sys2Proof.F32

/-! ## Finite values as rational numbers -/

@[simp] theorem negate_scaled (a : F32) : a.negate.scaled = -a.scaled := by
  cases a with
  | finite neg e f => cases neg <;> simp [negate, scaled]
  | inf _ | nan => simp [negate, scaled]

@[simp] theorem negate_isFinite (a : F32) : a.negate.isFinite = a.isFinite := by cases a <;> rfl

@[simp] theorem negate_toRat (a : F32) : a.negate.toRat = -a.toRat := by
  rw [toRat, toRat, negate_scaled]; push_cast; ring

theorem negate_sign {a : F32} (h : a.isFinite = true) : a.negate.sign = !a.sign := by
  obtain ⟨_, _, _, rfl⟩ := exists_finite_of_isFinite h
  rfl

theorem toRat_eq_zero_iff {a : F32} : a.toRat = 0 ↔ a.scaled = 0 := by
  rw [toRat, div_eq_zero_iff, Int.cast_eq_zero, or_iff_left (by positivity)]

theorem cast_toRat (a : F32) : (a.toRat : ℝ) = a.scaled / 2 ^ 149 := by rw [toRat]; push_cast; rfl

theorem signFactor_natAbs (z : Int) : (signFactor (decide (z < 0)) : ℝ) * (z.natAbs : ℝ) = z := by
  rw [Nat.cast_natAbs]
  by_cases h : z < 0
  · simp [h, abs_of_neg h]
  · simp [h, abs_of_nonneg (not_lt.mp h)]

theorem zeroOf_eq_ofCode (neg : Bool) : zeroOf neg = ofCode neg 0 := rfl

/-- Zero is the nearest code to zero. -/
theorem nearest_zero : Nearest 0 0 where
  le_upper := by simp
  even_of_upper _ := Even.zero
  lower_le b hb := absurd hb (by omega)
  even_of_lower b hb := absurd hb (by omega)

theorem zeroOf_roundsTo (neg : Bool) : (zeroOf neg).RoundsTo 0 := by
  rw [zeroOf_eq_ofCode]
  simpa using nearest_zero.roundsTo (le_refl 0) neg

/-! ## The sum -/

/-- The sum of two finite values: an exact zero under its own sign rule, or the exact sum rounded. -/
theorem add_finite {a b : F32} (ha : a.isFinite = true) (hb : b.isFinite = true) :
    a.add b = if a.scaled + b.scaled = 0 then zeroOf (a.sign && b.sign)
      else roundQuot (a.scaled + b.scaled < 0) (a.scaled + b.scaled).natAbs 1 := by
  obtain ⟨_, _, _, rfl⟩ := exists_finite_of_isFinite ha
  obtain ⟨_, _, _, rfl⟩ := exists_finite_of_isFinite hb
  rfl

theorem add_roundsTo {a b : F32} (ha : a.isFinite = true) (hb : b.isFinite = true) :
    (a.add b).RoundsTo ((a.toRat : ℝ) + (b.toRat : ℝ)) := by
  have hsum : (a.toRat : ℝ) + (b.toRat : ℝ) = ((a.scaled + b.scaled : Int) : ℝ) / 2 ^ 149 := by
    rw [cast_toRat, cast_toRat]; push_cast; ring
  rw [add_finite ha hb, hsum]
  split
  · rename_i h0
    rw [h0, Int.cast_zero, zero_div]
    exact zeroOf_roundsTo _
  · have h := roundQuot_roundsTo (a.scaled + b.scaled < 0) (a.scaled + b.scaled).natAbs one_pos
    rwa [Nat.cast_one, div_one, signFactor_natAbs] at h

theorem add_exact_zero {a b : F32} (ha : a.isFinite = true) (hb : b.isFinite = true) (h : a.toRat + b.toRat = 0) :
    a.add b = zeroOf (a.sign && b.sign) := by
  have h0 : a.scaled + b.scaled = 0 := by
    have : ((a.scaled + b.scaled : Int) : ℚ) / 2 ^ 149 = 0 := by rw [← h, toRat, toRat]; push_cast; ring
    rw [div_eq_zero_iff, Int.cast_eq_zero, or_iff_left (by positivity)] at this
    exact this
  rw [add_finite ha hb, if_pos h0]

theorem add_nan_left (a : F32) : nan.add a = nan := rfl

theorem add_nan_right (a : F32) : a.add nan = nan := by cases a <;> rfl

theorem inf_add_finite (s : Bool) {a : F32} (h : a.isFinite = true) : (inf s).add a = inf s := by
  obtain ⟨_, _, _, rfl⟩ := exists_finite_of_isFinite h
  rfl

theorem finite_add_inf (s : Bool) {a : F32} (h : a.isFinite = true) : a.add (inf s) = inf s := by
  obtain ⟨_, _, _, rfl⟩ := exists_finite_of_isFinite h
  rfl

theorem inf_add_inf (s t : Bool) : (inf s).add (inf t) = if s = t then inf s else nan := rfl

end Sys2Proof.F32

open Sys2Proof in
/-- Settles O53: the exact sum, a whole number of units, is rounded once, and a difference is the sum with the negated value. -/
theorem additionRounds : Obligations.AdditionRounds := by
  unfold Obligations.AdditionRounds
  refine ⟨fun a b ha hb => ?_, fun a => ?_, fun s a ha => ?_, fun s t => ?_⟩
  · have hb' : b.negate.isFinite = true := by rw [F32.negate_isFinite, hb]
    refine ⟨F32.add_roundsTo ha hb, ?_, F32.add_exact_zero ha hb, fun h => ?_⟩
    · have h := F32.add_roundsTo ha hb'
      rwa [F32.negate_toRat, Rat.cast_neg, ← sub_eq_add_neg] at h
    · rw [← F32.negate_sign hb]
      exact F32.add_exact_zero ha hb' (by rw [F32.negate_toRat, ← sub_eq_add_neg, h])
  · exact ⟨F32.add_nan_left a, F32.add_nan_right a, F32.add_nan_left _, F32.add_nan_right a⟩
  · have ha' : a.negate.isFinite = true := by rw [F32.negate_isFinite, ha]
    exact ⟨F32.inf_add_finite s ha, F32.finite_add_inf s ha, F32.inf_add_finite s ha', F32.finite_add_inf (!s) ha⟩
  · refine ⟨F32.inf_add_inf s t, ?_⟩
    show (F32.inf s).add (.inf !t) = _
    rw [F32.inf_add_inf]
    cases s <;> cases t <;> rfl
end

section
/-!
SUPPORT. Products, quotients and square roots (`00_scope.md` R5), and the settlement of their obligation.
-/

namespace Sys2Proof.F32

/-- A finite value as a rational number: its sign times its magnitude in units. -/
theorem finite_toRat (neg : Bool) (e : Fin 255) (f : Fin 8388608) :
    ((finite neg e f).toRat : ℝ) = signFactor neg * magnitude e f / 2 ^ 149 := by
  rw [finite_eq_ofCode, ofCode_toRat (by omega), magnitude_eq_codeUnits]

theorem finite_toRat_eq_zero_iff {neg : Bool} {e : Fin 255} {f : Fin 8388608} :
    (finite neg e f).toRat = 0 ↔ magnitude e f = 0 := by
  rw [toRat_eq_zero_iff, scaled]
  cases neg <;> simp

@[simp] theorem roundQuot_sign (neg : Bool) (num den : Nat) : (roundQuot neg num den).sign = neg := ofCode_sign neg _

theorem signFactor_mul_self (s : Bool) : (signFactor s : ℝ) * signFactor s = 1 := by cases s <;> simp

/-! ## Products and quotients of finite values -/

theorem mul_finite (s t : Bool) (e e' : Fin 255) (f f' : Fin 8388608) :
    (finite s e f).mul (finite t e' f') = roundQuot (s != t) (magnitude e f * magnitude e' f') (2 ^ 149) := rfl

theorem mul_roundsTo {a b : F32} (ha : a.isFinite = true) (hb : b.isFinite = true) :
    (a.mul b).RoundsTo ((a.toRat : ℝ) * (b.toRat : ℝ)) ∧ (a.mul b).sign = (a.sign != b.sign) := by
  obtain ⟨s, e, f, rfl⟩ := exists_finite_of_isFinite ha
  obtain ⟨t, e', f', rfl⟩ := exists_finite_of_isFinite hb
  rw [mul_finite]
  refine ⟨?_, roundQuot_sign _ _ _⟩
  have h := roundQuot_roundsTo (s != t) (magnitude e f * magnitude e' f') (Nat.two_pow_pos 149)
  have hr : ((finite s e f).toRat : ℝ) * ((finite t e' f').toRat : ℝ) =
      signFactor (s != t) * ((magnitude e f * magnitude e' f' : ℕ) / (2 ^ 149 : ℕ)) / 2 ^ 149 := by
    rw [finite_toRat, finite_toRat, signFactor_bne]; push_cast; ring
  rwa [hr]

theorem div_finite (s t : Bool) (e e' : Fin 255) (f f' : Fin 8388608) :
    (finite s e f).div (finite t e' f') =
      if magnitude e' f' = 0 then if magnitude e f = 0 then nan else inf (s != t)
      else roundQuot (s != t) (magnitude e f * 2 ^ 149) (magnitude e' f') := rfl

theorem div_roundsTo {a b : F32} (ha : a.isFinite = true) (hb : b.isFinite = true) (h0 : b.toRat ≠ 0) :
    (a.div b).RoundsTo ((a.toRat : ℝ) / (b.toRat : ℝ)) ∧ (a.div b).sign = (a.sign != b.sign) := by
  obtain ⟨s, e, f, rfl⟩ := exists_finite_of_isFinite ha
  obtain ⟨t, e', f', rfl⟩ := exists_finite_of_isFinite hb
  have hm : magnitude e' f' ≠ 0 := finite_toRat_eq_zero_iff.not.mp h0
  rw [div_finite, if_neg hm]
  refine ⟨?_, roundQuot_sign _ _ _⟩
  have h := roundQuot_roundsTo (s != t) (magnitude e f * 2 ^ 149) (Nat.pos_of_ne_zero hm)
  have hr : ((finite s e f).toRat : ℝ) / ((finite t e' f').toRat : ℝ) =
      signFactor (s != t) * ((magnitude e f * 2 ^ 149 : ℕ) / magnitude e' f') / 2 ^ 149 := by
    have hmR : (magnitude e' f' : ℝ) ≠ 0 := Nat.cast_ne_zero.mpr hm
    have hs : (signFactor t : ℝ) ≠ 0 := by cases t <;> simp
    rw [finite_toRat, finite_toRat, signFactor_bne]
    push_cast
    field_simp
    rw [pow_two, signFactor_mul_self, mul_one]
    norm_num
  rwa [hr]

theorem div_of_zero {a b : F32} (ha : a.isFinite = true) (hb : b.isFinite = true) (h0 : b.toRat = 0) :
    a.div b = if a.toRat = 0 then nan else inf (a.sign != b.sign) := by
  obtain ⟨s, e, f, rfl⟩ := exists_finite_of_isFinite ha
  obtain ⟨t, e', f', rfl⟩ := exists_finite_of_isFinite hb
  simp only [finite_toRat_eq_zero_iff] at h0 ⊢
  rw [div_finite, if_pos h0]
  rfl

/-! ## Products and quotients with an infinity or NaN -/

theorem mul_nan (a : F32) : nan.mul a = nan ∧ a.mul nan = nan := ⟨rfl, by cases a <;> rfl⟩

theorem div_nan (a : F32) : nan.div a = nan ∧ a.div nan = nan := ⟨rfl, by cases a <;> rfl⟩

theorem mul_inf_finite (s : Bool) {a : F32} (h : a.isFinite = true) :
    (inf s).mul a = (if a.toRat = 0 then nan else inf (s != a.sign)) ∧
    a.mul (inf s) = (if a.toRat = 0 then nan else inf (a.sign != s)) := by
  obtain ⟨t, e, f, rfl⟩ := exists_finite_of_isFinite h
  simp only [finite_toRat_eq_zero_iff]
  exact ⟨rfl, rfl⟩

theorem div_inf_finite (s : Bool) {a : F32} (h : a.isFinite = true) :
    (inf s).div a = inf (s != a.sign) ∧ a.div (inf s) = zeroOf (a.sign != s) := by
  obtain ⟨t, e, f, rfl⟩ := exists_finite_of_isFinite h
  exact ⟨rfl, rfl⟩

/-! ## The square root -/

/-- The bitwise root keeps the root between its answer and its answer plus the bits still open. -/
theorem sqrtBits_spec {n k r : Nat} (hlow : r * r ≤ n) (hhigh : n < (r + 2 ^ k) * (r + 2 ^ k)) :
    sqrtBits n k r * sqrtBits n k r ≤ n ∧ n < (sqrtBits n k r + 1) * (sqrtBits n k r + 1) := by
  induction k generalizing r with
  | zero => exact ⟨hlow, by simpa [sqrtBits] using hhigh⟩
  | succ k ih =>
    rw [sqrtBits]
    split
    · rename_i h
      exact ih h (by rw [add_assoc, ← two_mul, ← pow_succ']; exact hhigh)
    · exact ih hlow (by omega)

theorem natSqrt_spec {n : Nat} (h : n < 2 ^ 220 * 2 ^ 220) : natSqrt n * natSqrt n ≤ n ∧ n < (natSqrt n + 1) * (natSqrt n + 1) :=
  sqrtBits_spec (Nat.zero_le n) (by rw [zero_add]; exact h)

theorem magnitude_lt (e : Fin 255) (f : Fin 8388608) : magnitude e f < 16777216 * 2 ^ 253 := by
  have h := codeUnits_strictMono (show e.val * 8388608 + f.val < 255 * 8388608 by omega)
  rwa [codeUnits_firstInfinite, ← magnitude_eq_codeUnits] at h

/-- Rounding boundaries past the second binade are whole, so what is nearest to `r` and a half is nearest to every number strictly
between `r` and `r + 1`. -/
theorem Nearest.of_half {c r : Nat} {x : ℝ} (h : Nearest c ((2 * r + 1 : ℕ) / (2 : ℕ))) (hr : 33554432 ≤ r) (hlow : (r : ℝ) < x)
    (hhigh : x < r + 1) : Nearest c x := by
  have hhalf : (2 * ((2 * r + 1 : ℕ) / (2 : ℕ)) : ℝ) = (2 * r + 1 : ℕ) := by push_cast; ring
  have hup : 2 * r + 1 ≤ codeUnits c + codeUnits (c + 1) := by
    have := h.le_upper
    rw [hhalf] at this
    exact_mod_cast this
  have hc : 16777217 ≤ c := by
    by_contra hlt
    have h1 := codeUnits_strictMono.monotone (show c ≤ 16777217 by omega)
    have h2 := codeUnits_strictMono.monotone (show c + 1 ≤ 16777217 by omega)
    have h3 : codeUnits 16777217 = 16777218 := by decide
    omega
  obtain ⟨a, ha⟩ := codeUnits_even (show 16777216 ≤ c by omega)
  obtain ⟨b, hb⟩ := codeUnits_even (show 16777216 ≤ c + 1 by omega)
  have hupR : (2 * (r + 1) : ℝ) ≤ codeUnits c + codeUnits (c + 1) := by
    exact_mod_cast (by omega : 2 * (r + 1) ≤ codeUnits c + codeUnits (c + 1))
  have hlowR : ∀ d, d + 1 = c → (codeUnits d + codeUnits c : ℝ) ≤ 2 * r := by
    intro d hd
    obtain ⟨m, hm⟩ := codeUnits_even (show 16777216 ≤ d by omega)
    have hle : codeUnits d + codeUnits c ≤ 2 * r + 1 := by
      have := h.lower_le d hd
      rw [hhalf] at this
      exact_mod_cast this
    exact_mod_cast (by omega : codeUnits d + codeUnits c ≤ 2 * r)
  exact ⟨by linarith, fun he => by linarith, fun d hd => by linarith [hlowR d hd], fun d hd he => by linarith [hlowR d hd]⟩

/-- The root of `n`, at least `2^149`, is rounded correctly. -/
theorem sqrt_units_roundsTo {n : Nat} (hbig : 2 ^ 149 ≤ n) (hn : n < 2 ^ 220 * 2 ^ 220) :
    (if natSqrt n * natSqrt n = n then roundQuot false (natSqrt n) 1
      else roundQuot false (2 * natSqrt n + 1) 2).RoundsTo (Real.sqrt n / 2 ^ 149) := by
  obtain ⟨hlow, hhigh⟩ := natSqrt_spec hn
  clear hn
  generalize natSqrt n = r at *
  split
  · rename_i hsq
    have h := roundQuot_roundsTo false r one_pos
    rw [← hsq, Nat.cast_mul, Real.sqrt_mul_self (Nat.cast_nonneg r)]
    simpa using h
  · rename_i hsq
    have hr : 33554432 ≤ r := by
      by_contra hlt
      have := Nat.mul_le_mul (show r + 1 ≤ 33554432 by omega) (show r + 1 ≤ 33554432 by omega)
      omega
    have hx0 : (r : ℝ) < Real.sqrt n := by
      rw [Real.lt_sqrt (Nat.cast_nonneg r), pow_two]
      exact_mod_cast lt_of_le_of_ne hlow hsq
    have hx1 : Real.sqrt n < r + 1 := by
      rw [Real.sqrt_lt' (by positivity), pow_two]
      exact_mod_cast hhigh
    have h := ((roundCode_nearest (2 * r + 1) two_pos).of_half hr hx0 hx1).roundsTo (Real.sqrt_nonneg n) false
    rwa [signFactor_false, Int.cast_one, one_mul] at h

theorem sqrt_finite (neg : Bool) (e : Fin 255) (f : Fin 8388608) :
    (finite neg e f).sqrt =
      if magnitude e f = 0 then zeroOf neg
      else if neg = true then nan
      else if natSqrt (magnitude e f * 2 ^ 149) * natSqrt (magnitude e f * 2 ^ 149) = magnitude e f * 2 ^ 149 then
        roundQuot false (natSqrt (magnitude e f * 2 ^ 149)) 1
      else roundQuot false (2 * natSqrt (magnitude e f * 2 ^ 149) + 1) 2 := rfl

theorem finite_toRat_neg_iff {neg : Bool} {e : Fin 255} {f : Fin 8388608} :
    (finite neg e f).toRat < 0 ↔ neg = true ∧ magnitude e f ≠ 0 := by
  rw [← Rat.cast_lt (K := ℝ), finite_toRat, Rat.cast_zero, div_lt_iff₀ (by positivity), zero_mul]
  cases neg <;> simp [Nat.pos_iff_ne_zero]

theorem sqrt_roundsTo {a : F32} (ha : a.isFinite = true) (h : 0 ≤ a.toRat) : (a.sqrt).RoundsTo (Real.sqrt (a.toRat : ℝ)) := by
  obtain ⟨neg, e, f, rfl⟩ := exists_finite_of_isFinite ha
  rw [sqrt_finite]
  by_cases hm : magnitude e f = 0
  · rw [if_pos hm, finite_toRat_eq_zero_iff.mpr hm, Rat.cast_zero, Real.sqrt_zero]
    exact zeroOf_roundsTo neg
  · have hneg : ¬ neg = true := fun hn => not_lt.mpr h (finite_toRat_neg_iff.mpr ⟨hn, hm⟩)
    have hroot : Real.sqrt ((finite neg e f).toRat : ℝ) = Real.sqrt ((magnitude e f * 2 ^ 149 : ℕ) : ℝ) / 2 ^ 149 := by
      have hunits : ((finite neg e f).toRat : ℝ) = (magnitude e f * 2 ^ 149 : ℕ) / (2 ^ 149) ^ 2 := by
        rw [finite_toRat, Bool.eq_false_of_not_eq_true hneg, signFactor_false]; push_cast; field_simp; norm_num
      rw [hunits, Real.sqrt_div (Nat.cast_nonneg _), Real.sqrt_sq (by positivity)]
    rw [if_neg hm, if_neg hneg, hroot]
    have hlt := magnitude_lt e f
    exact sqrt_units_roundsTo (Nat.le_mul_of_pos_left _ (Nat.pos_of_ne_zero hm)) (by omega)

theorem sqrt_of_neg {a : F32} (h : a.toRat < 0) : a.sqrt = nan := by
  cases a with
  | finite neg e f =>
    obtain ⟨hn, hm⟩ := finite_toRat_neg_iff.mp h
    rw [sqrt_finite, if_neg hm, if_pos hn]
  | inf _ | nan => simp [toRat, scaled] at h

end Sys2Proof.F32

open Sys2Proof in
/-- Settles O54: exact products and quotients of the magnitudes are rounded once, and the integer root, a half added where it is not
exact, rounds as the real root does. -/
theorem productsRound : Obligations.ProductsRound := by
  unfold Obligations.ProductsRound
  refine ⟨fun a b ha hb => ?_, fun a => ?_, fun s a ha => ?_, fun s t => ⟨rfl, rfl⟩, fun s => rfl, rfl, rfl, rfl⟩
  · obtain ⟨hmul, hmulSign⟩ := F32.mul_roundsTo ha hb
    exact ⟨hmul, hmulSign, F32.div_roundsTo ha hb, fun hb0 ha0 => by rw [F32.div_of_zero ha hb hb0, if_neg ha0],
      fun hb0 ha0 => by rw [F32.div_of_zero ha hb hb0, if_pos ha0], F32.sqrt_roundsTo ha, F32.sqrt_of_neg⟩
  · obtain ⟨hmulL, hmulR⟩ := F32.mul_nan a
    obtain ⟨hdivL, hdivR⟩ := F32.div_nan a
    exact ⟨hmulL, hmulR, hdivL, hdivR⟩
  · obtain ⟨hmulL, hmulR⟩ := F32.mul_inf_finite s ha
    obtain ⟨hdivL, hdivR⟩ := F32.div_inf_finite s ha
    exact ⟨hmulL, hmulR, hdivL, hdivR⟩
end

section
/-!
SUPPORT. The conversions between naturals and binary32 (`00_scope.md` R7) and `clamp` (R13), and the settlement of their obligations.
-/

namespace Sys2Proof.F32

/-! ## From a natural -/

/-- A magnitude is its own nearest one. -/
theorem Nearest.eq_of_codeUnits {c d : Nat} (h : Nearest c (codeUnits d)) : c = d := by
  have h0 := h.abs_sub_le d
  rw [sub_self, abs_zero] at h0
  have := sub_eq_zero.mp (abs_nonpos_iff.mp h0)
  exact codeUnits_strictMono.injective (Nat.cast_injective this)

/-- Every significand of 24 bits, shifted, is a magnitude. -/
theorem exists_codeUnits_eq {m : Nat} (hm : m < 16777216) (s : Nat) : ∃ c, c ≤ s * 8388608 + m ∧ codeUnits c = m * 2 ^ s := by
  induction s generalizing m with
  | zero => exact ⟨0 * 8388608 + m, le_refl _, codeUnits_spacing hm.le (.inl rfl)⟩
  | succ s ih =>
    rcases Nat.lt_or_ge m 8388608 with hlt | hge
    · obtain ⟨c, hc, hu⟩ := ih (m := 2 * m) (by omega)
      exact ⟨c, by linarith, by rw [hu, pow_succ]; ring⟩
    · exact ⟨(s + 1) * 8388608 + m, le_refl _, codeUnits_spacing hm.le (.inr hge)⟩

/-- Below `2^24` the conversion is exact. -/
theorem ofNat_exact {n : Nat} (hn : n < 16777216) :
    ∃ c, c < 255 * 8388608 ∧ F32.ofNat n = ofCode false c ∧ codeUnits c = n * 2 ^ 149 := by
  obtain ⟨c, hc, hu⟩ := exists_codeUnits_eq hn 149
  have h := roundCode_nearest (n * 2 ^ 149) one_pos
  rw [Nat.cast_one, div_one, ← hu] at h
  refine ⟨c, by omega, ?_, hu⟩
  rw [F32.ofNat, roundQuot_eq_ofCode, ← hu, h.eq_of_codeUnits]

theorem ofNat_roundsTo (n : Nat) : (F32.ofNat n).RoundsTo (n : ℝ) := by
  have h := roundQuot_roundsTo false (n * 2 ^ 149) one_pos
  rwa [signFactor_false, Int.cast_one, one_mul, Nat.cast_one, div_one, Nat.cast_mul, Nat.cast_pow, Nat.cast_ofNat,
    mul_div_cancel_right₀ _ (by positivity)] at h

/-! ## To a natural -/

/-- The whole part of a finite value, of its units. -/
theorem truncToNat_finite {v : F32} (h : v.isFinite = true) :
    v.truncToNat = min (v.scaled.toNat / 2 ^ 149) 2147483647 := by
  obtain ⟨neg, e, f, rfl⟩ := exists_finite_of_isFinite h
  cases neg <;> simp [truncToNat, scaled]

theorem le_finite_iff {a b : F32} (ha : a.isFinite = true) (hb : b.isFinite = true) :
    le a b = true ↔ a.scaled ≤ b.scaled := by
  obtain ⟨_, _, _, rfl⟩ := exists_finite_of_isFinite ha
  obtain ⟨_, _, _, rfl⟩ := exists_finite_of_isFinite hb
  exact decide_eq_true_iff

theorem lt_finite_iff {a b : F32} (ha : a.isFinite = true) (hb : b.isFinite = true) :
    lt a b = true ↔ a.scaled < b.scaled := by
  rw [lt, Bool.and_eq_true, Bool.not_eq_true', ← Bool.not_eq_true, le_finite_iff ha hb, le_finite_iff hb ha]
  omega

@[simp] theorem zero_scaled : F32.zero.scaled = 0 := rfl

/-- `2^31`, the first value that does not fit. -/
theorem twoPow31_eq : F32.ofBits 0x4F000000#32 = .finite false 158 0 := by decide

theorem twoPow31_scaled : (F32.ofBits 0x4F000000#32).scaled = 2147483648 * 2 ^ 149 := by rw [twoPow31_eq]; rfl

theorem truncToNat_of_not_nonneg {v : F32} (h : le F32.zero v = false) : v.truncToNat = 0 := by
  cases v with
  | finite neg e f =>
    rw [← Bool.not_eq_true, le_finite_iff rfl rfl, zero_scaled, not_le] at h
    rw [truncToNat_finite rfl, Int.toNat_of_nonpos h.le, Nat.zero_div, Nat.zero_min]
  | inf neg =>
    cases neg with
    | false => exact absurd h (by decide)
    | true => rfl
  | nan => rfl

theorem truncToNat_of_large {v : F32} (h : le (F32.ofBits 0x4F000000#32) v = true) : v.truncToNat = 2147483647 := by
  cases v with
  | finite neg e f =>
    rw [le_finite_iff (by rw [twoPow31_eq]; rfl) rfl, twoPow31_scaled] at h
    rw [truncToNat_finite rfl]
    omega
  | inf neg =>
    cases neg with
    | false => rfl
    | true => rw [twoPow31_eq] at h; exact absurd h (by decide)
  | nan => rw [twoPow31_eq] at h; exact absurd h (by decide)

theorem truncToNat_whole {v : F32} (hv : v.isFinite = true) (h0 : le F32.zero v = true)
    (h1 : lt v (F32.ofBits 0x4F000000#32) = true) : (v.truncToNat : ℚ) ≤ v.toRat ∧ v.toRat < v.truncToNat + 1 := by
  rw [le_finite_iff rfl hv, zero_scaled] at h0
  rw [lt_finite_iff hv (by rw [twoPow31_eq]; rfl), twoPow31_scaled] at h1
  obtain ⟨n, hn⟩ := Int.eq_ofNat_of_zero_le h0
  have htrunc : v.truncToNat = n / 2 ^ 149 := by
    rw [truncToNat_finite hv, hn]
    simp only [Int.toNat_natCast]
    omega
  have hrat : v.toRat = n / 2 ^ 149 := by rw [toRat, hn]; push_cast; rfl
  rw [htrunc, hrat, le_div_iff₀ (by positivity), div_lt_iff₀ (by positivity)]
  constructor
  · exact_mod_cast Nat.div_mul_le_self n (2 ^ 149)
  · exact_mod_cast (by omega : n < (n / 2 ^ 149 + 1) * 2 ^ 149)

/-- Below `2^24` the conversions are inverse to each other. -/
theorem ofNat_toRat_truncToNat {n : Nat} (hn : n < 16777216) :
    (F32.ofNat n).toRat = n ∧ (F32.ofNat n).truncToNat = n := by
  obtain ⟨c, hc, hof, hu⟩ := ofNat_exact hn
  have hs : (F32.ofNat n).scaled = (n * 2 ^ 149 : ℕ) := by rw [hof, ofCode_scaled hc, hu, signFactor_false, one_mul]
  refine ⟨?_, ?_⟩
  · rw [toRat, hs, Int.cast_natCast, Nat.cast_mul, Nat.cast_pow, Nat.cast_ofNat, mul_div_cancel_right₀ _ (by positivity)]
  · rw [truncToNat_finite (by rw [hof]; exact ofCode_isFinite hc), hs]
    simp only [Int.toNat_natCast]
    omega

end Sys2Proof.F32

open Sys2Proof in
/-- Settles O52: `toF32` is a rounded quotient, exact because 24 bits are a significand; `truncToNat` divides the units. -/
theorem conversionsRound : Obligations.ConversionsRound := by
  unfold Obligations.ConversionsRound
  exact ⟨F32.ofNat_roundsTo, fun _ => F32.ofNat_toRat_truncToNat, fun _ => F32.truncToNat_whole,
    fun _ => F32.truncToNat_of_not_nonneg, fun _ => F32.truncToNat_of_large⟩

open Sys2Proof in
/-- Settles O51: each clause is one branch of `clamp`, and what lies between finite bounds is finite. -/
theorem clampIsTotal : Obligations.ClampIsTotal := by
  unfold Obligations.ClampIsTotal
  intro v lo hi hlo hhi h
  have hr := F32.clamp_range (v := v) h
  have hnan : F32.le lo .nan = false := by cases lo <;> rfl
  have hminus : F32.le lo (.inf true) = false := by
    obtain ⟨_, _, _, rfl⟩ := F32.exists_finite_of_isFinite hlo
    rfl
  have hplus : F32.lt hi (.inf false) = true := by
    obtain ⟨_, _, _, rfl⟩ := F32.exists_finite_of_isFinite hhi
    rfl
  exact ⟨hr, F32.isFinite_of_within hlo hhi hr.1 hr.2, F32.clamp_of_not_ge, F32.clamp_of_above h,
    fun hv => F32.clamp_of_within hv.1 hv.2, F32.clamp_of_not_ge hnan, F32.clamp_of_not_ge hminus,
    F32.clamp_of_above h hplus, by decide⟩
end

section
/-!
SUPPORT. Rounding is monotone, so products, quotients and whole parts of positive values are; and what legal parameters
(`00_scope.md` R3) give a RESET from that: ordered ranges, a reset value in each, a capacity of at least 2.
-/

namespace Sys2Proof

namespace F32

/-! ## Order -/

theorem ofCode_le_ofCode {c d : Nat} (h : c ≤ d) : le (ofCode false c) (ofCode false d) = true := by
  rcases Nat.lt_or_ge d (255 * 8388608) with hd | hd
  · have hc : c < 255 * 8388608 := by omega
    rw [le_finite_iff (ofCode_isFinite hc) (ofCode_isFinite hd), ofCode_scaled hc, ofCode_scaled hd]
    simpa using codeUnits_strictMono.monotone h
  · rw [ofCode_inf hd]
    rcases Nat.lt_or_ge c (255 * 8388608) with hc | hc
    · rw [ofCode, dif_pos hc]; rfl
    · rw [ofCode_inf hc]; rfl

theorem code_le_of_le {c d : Nat} (hc : c < 255 * 8388608) (hd : d < 255 * 8388608)
    (h : le (ofCode false c) (ofCode false d) = true) : c ≤ d := by
  rw [le_finite_iff (ofCode_isFinite hc) (ofCode_isFinite hd), ofCode_scaled hc, ofCode_scaled hd] at h
  exact codeUnits_strictMono.le_iff_le.mp (by simpa using h)

theorem not_nan_of_isFinite {a : F32} (h : a.isFinite = true) : a.isNaN = false := by
  obtain ⟨_, _, _, rfl⟩ := exists_finite_of_isFinite h
  rfl

/-- A positive finite value is that of a code past 0. -/
theorem exists_code_of_pos {a : F32} (hf : a.isFinite = true) (hp : lt F32.zero a = true) :
    ∃ c, 0 < c ∧ c < 255 * 8388608 ∧ a = ofCode false c := by
  obtain ⟨neg, c, hc, rfl⟩ := exists_code_of_isFinite hf
  rw [lt_finite_iff rfl hf, zero_scaled, ofCode_scaled hc] at hp
  cases neg with
  | false => exact ⟨c, Nat.pos_of_ne_zero fun h => by simp [h] at hp, hc, rfl⟩
  | true => simp at hp; omega

theorem lt_of_lt_le {a b c : F32} (hab : lt a b = true) (hbc : le b c = true) : lt a c = true := by
  rw [lt, Bool.and_eq_true, Bool.not_eq_true', ← Bool.not_eq_true] at hab ⊢
  exact ⟨le_trans hab.1 hbc, fun h => hab.2 (le_trans hbc h)⟩

theorem isFinite_of_pos_of_le {a b : F32} (hp : lt F32.zero a = true) (h : le a b = true) (hb : b.isFinite = true) :
    a.isFinite = true :=
  isFinite_of_within rfl hb (by rw [lt, Bool.and_eq_true] at hp; exact hp.1) h

/-! ## Monotone operations on positive values -/

theorem roundCode_mono {n d n' d' : Nat} (hd : 0 < d) (hd' : 0 < d') (h : n * d' ≤ n' * d) : roundCode n d ≤ roundCode n' d' := by
  refine (roundCode_nearest n hd).mono (roundCode_nearest n' hd') ?_
  rw [div_le_div_iff₀ (Nat.cast_pos.mpr hd) (Nat.cast_pos.mpr hd')]
  exact_mod_cast h

theorem mul_ofCode {c d : Nat} (hc : c < 255 * 8388608) (hd : d < 255 * 8388608) :
    (ofCode false c).mul (ofCode false d) = ofCode false (roundCode (codeUnits c * codeUnits d) (2 ^ 149)) := by
  rw [ofCode, dif_pos hc, ofCode, dif_pos hd, mul_finite, ofCode_magnitude hc, ofCode_magnitude hd]; rfl

theorem div_ofCode {c d : Nat} (hc : c < 255 * 8388608) (hd : d < 255 * 8388608) (h0 : 0 < d) :
    (ofCode false c).div (ofCode false d) = ofCode false (roundCode (codeUnits c * 2 ^ 149) (codeUnits d)) := by
  have hpos : codeUnits d ≠ 0 := (codeUnits_strictMono h0).ne'
  rw [ofCode, dif_pos hc, ofCode, dif_pos hd, div_finite, ofCode_magnitude hc, ofCode_magnitude hd, if_neg hpos]; rfl

theorem mul_mono_right {a b c : F32} (ha : a.isFinite = true) (hap : lt F32.zero a = true) (hc : c.isFinite = true)
    (hbp : lt F32.zero b = true) (h : le b c = true) : le (a.mul b) (a.mul c) = true := by
  obtain ⟨i, -, hi, rfl⟩ := exists_code_of_pos ha hap
  obtain ⟨j, -, hj, rfl⟩ := exists_code_of_pos (isFinite_of_pos_of_le hbp h hc) hbp
  obtain ⟨l, -, hl, rfl⟩ := exists_code_of_pos hc (lt_of_lt_le hbp h)
  rw [mul_ofCode hi hj, mul_ofCode hi hl]
  exact ofCode_le_ofCode (roundCode_mono (Nat.two_pow_pos _) (Nat.two_pow_pos _)
    (Nat.mul_le_mul_right _ (Nat.mul_le_mul_left _ (codeUnits_strictMono.monotone (code_le_of_le hj hl h)))))

/-- A quotient of positive values grows with its first term and falls with its second. -/
theorem div_mono {a b c d : F32} (hb : b.isFinite = true) (hap : lt F32.zero a = true) (hab : le a b = true)
    (hd : d.isFinite = true) (hcp : lt F32.zero c = true) (hcd : le c d = true) : le (a.div d) (b.div c) = true := by
  obtain ⟨i, -, hi, rfl⟩ := exists_code_of_pos (isFinite_of_pos_of_le hap hab hb) hap
  obtain ⟨j, -, hj, rfl⟩ := exists_code_of_pos hb (lt_of_lt_le hap hab)
  obtain ⟨l, hl0, hl, rfl⟩ := exists_code_of_pos (isFinite_of_pos_of_le hcp hcd hd) hcp
  obtain ⟨m, hm0, hm, rfl⟩ := exists_code_of_pos hd (lt_of_lt_le hcp hcd)
  have hmono := codeUnits_strictMono.monotone
  rw [div_ofCode hi hm hm0, div_ofCode hj hl hl0]
  exact ofCode_le_ofCode (roundCode_mono (codeUnits_strictMono hm0) (codeUnits_strictMono hl0)
    (Nat.mul_le_mul (Nat.mul_le_mul_right _ (hmono (code_le_of_le hi hj hab))) (hmono (code_le_of_le hl hm hcd))))

theorem truncToNat_le (v : F32) : v.truncToNat ≤ 2147483647 := by
  cases v with
  | finite neg e f => rw [truncToNat_finite rfl]; exact Nat.min_le_right _ _
  | inf neg => cases neg <;> decide
  | nan => decide

theorem truncToNat_mono {a b : F32} (h : le a b = true) : a.truncToNat ≤ b.truncToNat := by
  cases a with
  | finite _ _ _ =>
    cases b with
    | finite _ _ _ =>
      rw [le_finite_iff rfl rfl] at h
      rw [truncToNat_finite rfl, truncToNat_finite rfl]
      exact min_le_min_right _ (Nat.div_le_div_right (Int.toNat_le_toNat h))
    | inf t =>
      cases t with
      | false => exact truncToNat_le _
      | true => simp [le] at h
    | nan => simp [le] at h
  | inf s =>
    cases s with
    | true => exact Nat.zero_le _
    | false =>
      cases b with
      | inf t =>
        cases t with
        | false => exact le_refl _
        | true => simp [le] at h
      | finite _ _ _ | nan => simp [le] at h
  | nan => exact Nat.zero_le _

theorem abs_scaled (a : F32) : a.abs.scaled = |a.scaled| := by
  cases a with
  | finite neg e f => cases neg <;> simp [abs, scaled]
  | inf _ | nan => simp [abs, scaled]

@[simp] theorem abs_isFinite (a : F32) : a.abs.isFinite = a.isFinite := by cases a <;> rfl

/-- A value at most `b` in magnitude lies between `-b` and `b`. -/
theorem within_of_absLe {a b : F32} (hp : lt F32.zero b = true) (hb : b.isFinite = true) (h : absLe a b = true) :
    le b.negate a = true ∧ le a b = true := by
  have ha : a.isFinite = true := by
    cases a with
    | finite _ _ _ => rfl
    | inf _ | nan => cases b <;> simp_all [absLe, abs, le, isFinite]
  rw [absLe, le_finite_iff (by simpa) (by simpa), abs_scaled, abs_scaled] at h
  rw [lt_finite_iff rfl hb, zero_scaled] at hp
  rw [abs_of_pos hp, abs_le] at h
  rw [le_finite_iff (by simpa) ha, le_finite_iff ha hb, negate_scaled]
  exact h

theorem Ranges.within {lo rst hi : F32} (h : Ranges lo rst hi) : Machine.Within rst lo hi := h.2.2

theorem Ranges.ordered {lo rst hi : F32} (h : Ranges lo rst hi) : le lo hi = true := le_trans h.2.2.1 h.2.2.2

end F32

namespace Machine

/-- What RESET tests (`70_reset_and_hazards.md` R341). -/
theorem resetAccepts_iff {k : Parameters} {fs : F32} :
    resetAccepts k fs = true ↔
      F32.le k.srMin fs = true ∧ F32.lt k.srMax fs = false ∧ capacityOf k fs ≤ k.lineMemWords := by
  simp [resetAccepts, and_assoc]

end Machine

/-- What the operations rely on of parameters a block can be built with. -/
structure Parameters.Usable (k : Parameters) : Prop where
  size : F32.Ranges k.sizeMin k.sizeRst k.sizeMax
  progression : F32.Ranges k.progMin k.progRst k.progMax
  decay : F32.Ranges k.decayMin k.decayRst k.decayMax
  hardness : F32.Ranges k.hardMin k.hardRst k.hardMax
  drywet : F32.Ranges k.drywetMin k.drywetRst k.drywetMax
  width : F32.Ranges k.widthMin k.widthRst k.widthMax
  predelay : F32.Ranges k.predelayMin k.predelayRst k.predelayMax
  /-- The range of a stable gain is one. -/
  stable : F32.le k.stableMax.negate k.stableMax = true
  apGain : Machine.StableGain k k.apGainRst
  /-- At every accepted sample rate the absorption range holds its reset value. -/
  absorption : ∀ fs, Machine.resetAccepts k fs = true → Machine.Within (k.absorbRst fs) k.absorbMin (k.absorbMax fs)
  /-- Every accepted sample rate gives lines of at least two words. -/
  capacity : ∀ fs, Machine.resetAccepts k fs = true → 2 ≤ Machine.capacityOf k fs

theorem Parameters.Legal.usable {k : Parameters} (h : k.Legal) : k.Usable := by
  obtain ⟨⟨-, hsecPos, hsecFin, -, -, -, hstablePos, hstableLt, -, -, -, -, -, hgain, -⟩,
    hsize, hprog, hdecay, hhard, hdrywet, hwidth, hpredelay, hsrPos, hsrLe, hsrFin, -, habsorb, hdivPos, hdivLe, hdivFin, -, -, -,
    hcap, -⟩ := h
  have hstableFin : k.stableMax.isFinite = true := by
    have hle : F32.le k.stableMax Config.one = true := by
      rw [F32.lt, Bool.and_eq_true] at hstableLt; exact hstableLt.1
    exact F32.isFinite_of_pos_of_le hstablePos hle (by decide)
  have hrate : ∀ fs, Machine.resetAccepts k fs = true → F32.le k.srMin fs = true ∧ fs.isFinite = true := fun fs hfs => by
    obtain ⟨hmin, hmax, -⟩ := Machine.resetAccepts_iff.mp hfs
    have hle : F32.le fs k.srMax = true := by
      rcases F32.le_total (F32.not_nan_of_le hmin).2 (F32.not_nan_of_le hsrLe).2 with hle | hge
      · exact hle
      · simpa [F32.lt, hge] using hmax
    exact ⟨hmin, F32.isFinite_of_pos_of_le (F32.lt_of_lt_le hsrPos hmin) hle hsrFin⟩
  refine ⟨hsize, hprog, hdecay, hhard, hdrywet, hwidth, hpredelay, ?_, F32.within_of_absLe hstablePos hstableFin hgain,
    fun fs hfs => ?_, fun fs hfs => ?_⟩
  · have hself : F32.absLe k.stableMax k.stableMax = true := F32.le_refl_of _ (F32.not_nan_of_isFinite (by simpa))
    exact (F32.within_of_absLe hstablePos hstableFin hself).1
  · obtain ⟨hmin, hfin⟩ := hrate fs hfs
    have hdivRefl := F32.le_refl_of k.absorbRstDiv (F32.not_nan_of_le hdivLe).2
    have hfsRefl := F32.le_refl_of fs (F32.not_nan_of_le hmin).2
    exact ⟨F32.le_trans habsorb (F32.div_mono hfin hsrPos hmin hdivFin (F32.lt_of_lt_le hdivPos hdivLe) hdivRefl),
      F32.div_mono hfin (F32.lt_of_lt_le hsrPos hmin) hfsRefl hdivFin hdivPos hdivLe⟩
  · obtain ⟨hmin, hfin⟩ := hrate fs hfs
    exact hcap.trans (Nat.succ_le_succ (F32.truncToNat_mono (F32.mul_mono_right hsecFin hsecPos hfin hsrPos hmin)))

end Sys2Proof
end

section
/-!
SUPPORT. The two invariants on records.  One family of predicates serves both: with `whole = False` it says what every operation
keeps (`Inv`), with `whole = True` what every step keeps besides (`WholeInv`: lines that lag, allpasses whose lines are paired).
-/

namespace Sys2Proof.Machine

/-! ## Delay lines -/

/-- A line of `cap` words in range (`10_state.md` R30), which lags where `whole` asks it. -/
structure DelayLine.Ok (whole : Prop) (cap : Nat) (l : DelayLine) : Prop where
  wf : l.Wf
  cap_eq : l.cap = cap
  lag : whole → l.Lag

section
variable {whole : Prop} {cap : Nat} {l : DelayLine}

theorem dlNew_ok (h : 1 ≤ cap) : (dlNew cap).Ok whole cap := ⟨dlNew_wf h, rfl, fun _ => dlNew_lag cap⟩

theorem dlSetDuration_ok (h : l.Ok whole cap) (d : Nat) : (dlSetDuration l d).Ok whole cap :=
  ⟨dlSetDuration_wf d h.wf, h.cap_eq, fun _ => dlSetDuration_lag l d⟩

theorem dlProcess_ok (h : l.Ok whole cap) (x : F32) : (dlProcess l x).1.Ok whole cap :=
  ⟨dlProcess_wf x h.wf, h.cap_eq, fun hw => dlProcess_lag x h.wf (h.lag hw)⟩

@[simp] theorem dlProcess_dur (l : DelayLine) (x : F32) : (dlProcess l x).1.dur = l.dur := rfl

theorem dlProcessBlock_ok (h : l.Ok whole cap) (xs : List F32) : (dlProcessBlock l xs).1.Ok whole cap := by
  induction xs generalizing l with
  | nil => exact h
  | cons x xs ih => exact ih (dlProcess_ok h x)

@[simp] theorem dlProcessBlock_dur (l : DelayLine) (xs : List F32) : (dlProcessBlock l xs).1.dur = l.dur := by
  induction xs generalizing l with
  | nil => rfl
  | cons x xs ih => exact ih (dlProcess l x).1

/-- A write alone keeps a line in range, but not lagging (`40_delayline.md` R126). -/
theorem dlWrite_ok (hw : ¬ whole) (h : l.Ok whole cap) (x : F32) : (dlWrite l x).Ok whole cap :=
  ⟨dlWrite_wf x h.wf, h.cap_eq, fun h => absurd h hw⟩

theorem dlRead_ok (hw : ¬ whole) (h : l.Ok whole cap) : (dlRead l).1.Ok whole cap :=
  ⟨dlRead_wf h.wf, h.cap_eq, fun h => absurd h hw⟩

/-- A read then a write keeps a line as a DL_PROCESS does. -/
theorem dlReadWrite_ok (h : l.Ok whole cap) (x : F32) : (dlWrite (dlRead l).1 x).Ok whole cap :=
  ⟨dlWrite_wf x (dlRead_wf h.wf), h.cap_eq, fun hw => dlReadWrite_lag x h.wf (h.lag hw)⟩

end

/-! ## Allpasses -/

/-- An allpass whose lines, of `capIn` and `capOut` words, are in range and whose gain is stable (`10_state.md` R33); where `whole` asks
it the lines lag and have one capacity and one duration of at least 1. -/
structure Allpass.Ok (whole : Prop) (k : Parameters) (capIn capOut : Nat) (a : Allpass) : Prop where
  inLine : a.inLine.Ok whole capIn
  outLine : a.outLine.Ok whole capOut
  gain : StableGain k a.gain
  paired : whole → capIn = capOut ∧ a.inLine.dur = a.outLine.dur ∧ 1 ≤ a.inLine.dur

theorem apStableGain_stable {k : Parameters} (hk : k.Usable) (g : F32) : StableGain k (apStableGain k g) :=
  F32.clamp_range hk.stable

theorem apNew_ok {whole : Prop} {k : Parameters} (hk : k.Usable) {c : Nat} (hc : 2 ≤ c) (sr : F32) :
    (apNew k c sr).Ok whole k c c :=
  ⟨dlNew_ok (by omega), dlNew_ok (by omega), hk.apGain, fun _ => ⟨rfl, rfl, show 1 ≤ c - 1 by omega⟩⟩

section
variable {whole : Prop} {k : Parameters} {capIn capOut : Nat} {a : Allpass}

theorem apSetDuration_ok (h : a.Ok whole k capIn capOut) (d : Nat) : (apSetDuration a d).Ok whole k capIn capOut := by
  refine ⟨dlSetDuration_ok h.inLine _, dlSetDuration_ok h.outLine _, h.gain, fun hw => ?_⟩
  obtain ⟨hcap, -, hdur⟩ := h.paired hw
  obtain ⟨-, hle, -⟩ := h.inLine.wf
  refine ⟨hcap, ?_, ?_⟩
  · show min _ (a.inLine.cap - 1) = min _ (a.outLine.cap - 1)
    rw [h.inLine.cap_eq, h.outLine.cap_eq, hcap]
  · show 1 ≤ min (max 1 _) (a.inLine.cap - 1)
    omega

theorem apSetDelay_ok (h : a.Ok whole k capIn capOut) (seconds : F32) : (apSetDelay a seconds).Ok whole k capIn capOut :=
  apSetDuration_ok h _

theorem Allpass.Ok.withGain (h : a.Ok whole k capIn capOut) {g : F32} (hg : StableGain k g) :
    ({ a with gain := g } : Allpass).Ok whole k capIn capOut :=
  ⟨h.inLine, h.outLine, hg, h.paired⟩

theorem apSetGain_ok (hk : k.Usable) (h : a.Ok whole k capIn capOut) (g : F32) : (apSetGain k a g).Ok whole k capIn capOut :=
  h.withGain (apStableGain_stable hk g)

theorem apProcess_ok (h : a.Ok whole k capIn capOut) (x : F32) : (apProcess a x).1.Ok whole k capIn capOut :=
  ⟨dlProcess_ok h.inLine x, dlReadWrite_ok h.outLine _, h.gain, h.paired⟩

end

/-! ## The engine -/

/-- The engine of a configured block: what `Inv` and, where `whole` asks it, `WholeInv` say of it. -/
structure Engine.Ok (whole : Prop) (k : Parameters) (e : Engine) : Prop where
  rate : resetAccepts k e.fs = true
  cap_eq : e.cap = capacityOf k e.fs
  params : e.p.Legal k e.fs
  mixing : e.fbm = mixMatrix k
  kinds : ∀ i, (e.damp.get i).kind = k.damping
  ap : ∀ i, (e.ap.get i).Ok whole k e.cap e.cap
  dl : ∀ i, (e.dl.get i).Ok whole e.cap
  pre : e.pre.Ok whole e.cap

section
variable {whole : Prop} {k : Parameters} {e : Engine}

/-- Other parameters in range are as good. -/
theorem Engine.Ok.withParams (h : e.Ok whole k) {p : Params} (hp : p.Legal k e.fs) : ({ e with p := p } : Engine).Ok whole k :=
  { h with params := hp }

theorem Engine.Ok.withDamp (h : e.Ok whole k) {damp : Quad Damp} (hd : ∀ i, (damp.get i).kind = k.damping) :
    ({ e with damp := damp } : Engine).Ok whole k :=
  { h with kinds := hd }

theorem Engine.Ok.withAp (h : e.Ok whole k) {ap : Quad Allpass} (ha : ∀ i, (ap.get i).Ok whole k e.cap e.cap) :
    ({ e with ap := ap } : Engine).Ok whole k :=
  { h with ap := ha }

theorem Engine.Ok.withDl (h : e.Ok whole k) {dl : Quad DelayLine} (hd : ∀ i, (dl.get i).Ok whole e.cap) :
    ({ e with dl := dl } : Engine).Ok whole k :=
  { h with dl := hd }

theorem Engine.Ok.withPre (h : e.Ok whole k) {pre : DelayLine} (hp : pre.Ok whole e.cap) : ({ e with pre := pre } : Engine).Ok whole k :=
  { h with pre := hp }

theorem Engine.Ok.withFb (h : e.Ok whole k) (fb : Quad F32) : ({ e with fb := fb } : Engine).Ok whole k := { h with }

theorem Engine.Ok.withLen (h : e.Ok whole k) (len : Oct Nat) : ({ e with len := len } : Engine).Ok whole k := { h with }

/-- The capacity fits the line memories (R341). -/
theorem Engine.Ok.fits (h : e.Ok whole k) : e.cap ≤ k.lineMemWords := by
  rw [h.cap_eq]
  exact (resetAccepts_iff.mp h.rate).2.2

/-! ### The helpers and the setters -/

theorem applyLengths_ok (h : e.Ok whole k) (n : Oct Nat) : (applyLengths e n).Ok whole k := by
  refine ((h.withLen n).withAp (ap := (applyLengths e n).ap) fun i => ?_).withDl (dl := (applyLengths e n).dl) fun i => ?_
  · rw [applyLengths_ap]
    exact apSetDuration_ok (h.ap i) _
  · rw [applyLengths_dl]
    exact dlSetDuration_ok (h.dl i) _

theorem rederiveLengths_ok (h : e.Ok whole k) : (rederiveLengths k e).Ok whole k := applyLengths_ok h _

theorem applyAbsorption_ok (h : e.Ok whole k) : (applyAbsorption k e).Ok whole k := by
  refine h.withDamp fun i => ?_
  rw [Quad.get_map, dampSetCutoff_kind]
  exact h.kinds i

variable (hk : k.Usable) (h : e.Ok whole k) (v : F32)
include hk h

theorem setSize_ok : (setSize k e v).Ok whole k := by
  obtain ⟨-, hrest⟩ := h.params
  exact rederiveLengths_ok (h.withParams ⟨F32.clamp_range hk.size.ordered, hrest⟩)

theorem setDecay_ok : (setDecay k e v).Ok whole k := by
  obtain ⟨hsize, -, hrest⟩ := h.params
  refine (h.withParams (p := (setDecay k e v).p) ⟨hsize, F32.clamp_range hk.decay.ordered, hrest⟩).withAp fun i => ?_
  rw [Quad.get_map]
  exact (h.ap i).withGain (apStableGain_stable hk _)

theorem setAbsorption_ok : (setAbsorption k e v).Ok whole k := by
  obtain ⟨hsize, hdecay, -, hrest⟩ := h.params
  obtain ⟨hlow, hhigh⟩ := hk.absorption e.fs h.rate
  exact applyAbsorption_ok (h.withParams ⟨hsize, hdecay, F32.clamp_range (F32.le_trans hlow hhigh), hrest⟩)

theorem setHardness_ok : (setHardness k e v).Ok whole k := by
  obtain ⟨hsize, hdecay, habsorption, -, hrest⟩ := h.params
  exact h.withParams ⟨hsize, hdecay, habsorption, F32.clamp_range hk.hardness.ordered, hrest⟩

theorem setProgression_ok : (setProgression k e v).Ok whole k := by
  obtain ⟨hsize, hdecay, habsorption, hhardness, -, hrest⟩ := h.params
  exact rederiveLengths_ok
    (h.withParams ⟨hsize, hdecay, habsorption, hhardness, F32.clamp_range hk.progression.ordered, hrest⟩)

theorem setDrywet_ok : (setDrywet k e v).Ok whole k := by
  obtain ⟨hsize, hdecay, habsorption, hhardness, hprogression, -, hrest⟩ := h.params
  exact h.withParams ⟨hsize, hdecay, habsorption, hhardness, hprogression, F32.clamp_range hk.drywet.ordered, hrest⟩

theorem setWidth_ok : (setWidth k e v).Ok whole k := by
  obtain ⟨hsize, hdecay, habsorption, hhardness, hprogression, hdrywet, -, hpredelay⟩ := h.params
  exact h.withParams ⟨hsize, hdecay, habsorption, hhardness, hprogression, hdrywet, F32.clamp_range hk.width.ordered, hpredelay⟩

theorem setPredelay_ok : (setPredelay k e v).Ok whole k := by
  obtain ⟨hsize, hdecay, habsorption, hhardness, hprogression, hdrywet, hwidth, -⟩ := h.params
  exact (h.withParams (p := (setPredelay k e v).p) ⟨hsize, hdecay, habsorption, hhardness, hprogression, hdrywet, hwidth,
    F32.clamp_range hk.predelay.ordered⟩).withPre (dlSetDuration_ok h.pre _)

omit v in
/-- A message is applied by the setter of its tag; a reserved tag applies nothing (`47_parameter_channel.md` R277, R278). -/
theorem applyMessage_ok (word : MsgWord) : (applyMessage k e word).Ok whole k := by
  unfold applyMessage
  split
  · exact setSize_ok hk h _
  · exact setDecay_ok hk h _
  · exact setAbsorption_ok hk h _
  · exact setHardness_ok hk h _
  · exact setProgression_ok hk h _
  · exact setDrywet_ok hk h _
  · exact setWidth_ok hk h _
  · exact setPredelay_ok hk h _
  · exact h

end

/-! ### Samples -/

section
variable {whole : Prop} {k : Parameters} {e : Engine}

theorem fdnSample_ok (n : Num) (h : e.Ok whole k) (x : F32) : (fdnSample n e x).1.Ok whole k where
  rate := h.rate
  cap_eq := h.cap_eq
  params := h.params
  mixing := h.mixing
  kinds i := by
    simp only [fdnSample, Quad.get_map, Quad.get_build]
    exact (dampProcess_kind _ _).trans (h.kinds i)
  ap i := by
    simp only [fdnSample, Quad.get_map, Quad.get_build]
    exact apProcess_ok (h.ap i) _
  dl i := by
    simp only [fdnSample, Quad.get_map, Quad.get_build]
    exact dlProcess_ok (h.dl i) _
  pre := dlProcess_ok h.pre x

theorem renderLoop_ok (n : Num) (h : e.Ok whole k) (xs : List F32) : (renderLoop n e xs).1.Ok whole k := by
  induction xs generalizing e with
  | nil => exact h
  | cons x xs ih => exact ih (fdnSample_ok n h x)

end

/-! ### RESET -/

theorem resetParams_legal {k : Parameters} (hk : k.Usable) {fs : F32} (h : resetAccepts k fs = true) :
    (resetParams k fs).Legal k fs :=
  ⟨hk.size.within, hk.decay.within, hk.absorption fs h, hk.hardness.within, hk.progression.within, hk.drywet.within,
    hk.width.within, hk.predelay.within⟩

theorem dampNew_kind (kind : DampingKind) (fs : F32) : (dampNew kind fs).kind = kind := by cases kind <;> rfl

theorem createdEngine_ok {whole : Prop} {k : Parameters} (hk : k.Usable) {fs : F32} (h : resetAccepts k fs = true) :
    (createdEngine k fs).Ok whole k where
  rate := h
  cap_eq := rfl
  params := resetParams_legal hk h
  mixing := rfl
  kinds i := by
    simp only [createdEngine, Quad.get_build]
    exact dampNew_kind _ _
  ap i := by
    simp only [createdEngine, Quad.get_build]
    exact apNew_ok hk (hk.capacity fs h) fs
  dl i := by
    simp only [createdEngine, Quad.get_build]
    exact dlNew_ok (one_le_two.trans (hk.capacity fs h))
  pre := dlSetDuration_ok (dlNew_ok (one_le_two.trans (hk.capacity fs h))) _

theorem freshEngine_ok {whole : Prop} {k : Parameters} (hk : k.Usable) {fs : F32} (h : resetAccepts k fs = true) :
    (freshEngine k fs).Ok whole k :=
  applyAbsorption_ok (rederiveLengths_ok (createdEngine_ok hk h))

/-! ## The queue -/

/-- The queue of a configured block (`10_state.md` R36; `47_parameter_channel.md` R276). -/
structure Queue.Ok (k : Parameters) (q : Queue) : Prop where
  slots : q.slot.length = k.queueCapacity
  channel : q.QInv k
  copies : k.cdcLag = .zero → q.tailSync = q.tail ∧ q.headSync = q.head

theorem emptyQueue_ok {k : Parameters} {slots : Slots} (h : slots.length = k.queueCapacity) : (emptyQueue slots).Ok k :=
  ⟨h, ⟨le_refl _, le_refl _, le_refl _, Nat.zero_le _⟩, fun _ => ⟨rfl, rfl⟩⟩

section
variable {k : Parameters} {q : Queue}

theorem enqueue_ok (h : q.Ok k) (w : MsgWord) : (enqueue k q w).1.Ok k := by
  by_cases hfull : q.tail - q.headSync = k.queueCapacity
  · rwa [enqueue_full hfull]
  · obtain ⟨hhs, hht, htt, hcap⟩ := h.channel
    rw [enqueue_room hfull]
    refine ⟨by rw [slotWrite_length, h.slots], ?_, fun hz => ⟨by simp only [hz, syncCopy], (h.copies hz).2⟩⟩
    cases hlag : k.cdcLag <;> simp only [Queue.QInv, syncCopy] <;> omega

theorem dequeue_ok (h : q.Ok k) : (dequeue k q).1.Ok k := by
  by_cases hempty : q.tailSync = q.head
  · rwa [dequeue_empty hempty]
  · obtain ⟨hhs, hht, htt, hcap⟩ := h.channel
    rw [dequeue_visible hempty]
    refine ⟨h.slots, ?_, fun hz => ⟨(h.copies hz).1, by simp only [hz, syncCopy]⟩⟩
    cases hlag : k.cdcLag <;> simp only [Queue.QInv, syncCopy] <;> omega

theorem syncForward_ok (h : q.Ok k) (hb : q.tailSync < q.tail) (hlag : k.cdcLag = .arbitrary) : (syncForward q).Ok k := by
  obtain ⟨hhs, hht, htt, hcap⟩ := h.channel
  refine ⟨h.slots, ?_, fun hz => by simp [hlag] at hz⟩
  simp only [Queue.QInv, syncForward]
  omega

theorem syncBackward_ok (h : q.Ok k) (hb : q.headSync < q.head) (hlag : k.cdcLag = .arbitrary) : (syncBackward q).Ok k := by
  obtain ⟨hhs, hht, htt, hcap⟩ := h.channel
  refine ⟨h.slots, ?_, fun hz => by simp [hlag] at hz⟩
  simp only [Queue.QInv, syncBackward]
  omega

end

end Sys2Proof.Machine
end

section
/-!
SUPPORT. The two invariants on the state, one rule per shared operation, every operation, and the settlement of the two obligations.
-/

namespace Sys2Proof

/-- What holds of every element of a file and of a new one holds after the replacement. -/
theorem Quad.forall_get_set {α : Type} {P : α → Prop} {q : Quad α} {x : α} (h : ∀ j, P (q.get j)) (hx : P x) (i j : Fin 4) :
    P ((q.set i x).get j) := by
  rw [Quad.get_set]
  split
  · exact hx
  · exact h j

/-- Whether a line is one of the two of an allpass. -/
def LineRef.inAllpass (l : LineRef) : Bool :=
  match l with
  | .apIn _ | .apOut _ | .benchApIn | .benchApOut => true
  | .pre | .dl _ | .bench => false

/-- What is asked of a line where `whole` is asked of the state: to lag, but for the stand-alone one. -/
def LineRef.demand (whole : Prop) (l : LineRef) : Prop :=
  match l with
  | .pre | .dl _ | .apIn _ | .apOut _ | .benchApIn | .benchApOut => whole
  | .bench => False

namespace Machine

/-- The stand-alone components (log 6). -/
structure Bench.Ok (whole : Prop) (k : Parameters) (b : Bench) : Prop where
  line : b.line.Wf
  ap : ∃ capIn capOut, b.ap.Ok whole k capIn capOut

/-- `Inv` where `whole = False`, `WholeInv` where `whole = True`, part by part. -/
structure State.Ok (whole : Prop) (s : State) : Prop where
  legal : s.par.Legal
  latch : s.cfgOk = true ↔ s.seq ≠ .unconfigured
  engine : s.cfgOk = true → s.eng.Ok whole s.par
  queue : s.cfgOk = true → s.queue.Ok s.par
  bench : s.bench.Ok whole s.par

section
variable {whole : Prop} {s t : State}

/-! ## The parts and the invariants -/

/-- The engine's thirteen lines, by their names. -/
theorem Engine.Ok.line {k : Parameters} (h : s.eng.Ok whole k) {l : LineRef} (hl : l.inEngine = true) :
    (s.line l).Ok whole s.eng.cap := by
  match l, hl with
  | .pre, _ => exact h.pre
  | .dl i, _ => exact h.dl i
  | .apIn i, _ => exact (h.ap i).inLine
  | .apOut i, _ => exact (h.ap i).outLine

/-- The stand-alone lines are in range. -/
theorem Bench.Ok.line_wf {k : Parameters} (h : s.bench.Ok whole k) {l : LineRef} (hl : l.inEngine = false) : (s.line l).Wf := by
  obtain ⟨capIn, capOut, ha⟩ := h.ap
  match l, hl with
  | .bench, _ => exact h.line
  | .benchApIn, _ => exact ha.inLine.wf
  | .benchApOut, _ => exact ha.outLine.wf

theorem State.Ok.inv (h : s.Ok whole) : Inv s where
  legal := h.legal
  latch := h.latch
  rate hc := ⟨(h.engine hc).rate, (h.engine hc).cap_eq⟩
  params hc := (h.engine hc).params
  mixing hc := (h.engine hc).mixing
  kinds hc := (h.engine hc).kinds
  gains hc i := ((h.engine hc).ap i).gain
  slots hc := (h.queue hc).slots
  channel hc := (h.queue hc).channel
  copies hc := (h.queue hc).copies
  lines l hl := by
    cases hi : l.inEngine with
    | true => exact ((h.engine (hl.resolve_right (by simp [hi]))).line hi).wf
    | false => exact h.bench.line_wf hi
  capacity hc l hl := ⟨((h.engine hc).line hl).cap_eq, (h.engine hc).fits⟩
  benchGain := by
    obtain ⟨_, _, ha⟩ := h.bench.ap
    exact ha.gain

theorem State.Ok.wholeInv (h : s.Ok True) : WholeInv s := by
  obtain ⟨capIn, capOut, ha⟩ := h.bench.ap
  obtain ⟨hcap, hdur, hpos⟩ := ha.paired trivial
  exact {
    h.inv with
    lag := fun hc l hl => ((h.engine hc).line hl).lag trivial
    paired := fun hc i => (((h.engine hc).ap i).paired trivial).2
    benchLag := ⟨ha.inLine.lag trivial, ha.outLine.lag trivial⟩
    benchPaired := ⟨by rw [ha.inLine.cap_eq, ha.outLine.cap_eq, hcap], hdur, hpos⟩ }

/-- A line of the engine, from the invariants. -/
theorem Inv.line_ok (h : Inv s) (hw : whole → WholeInv s) (hc : s.cfgOk = true) {l : LineRef} (hl : l.inEngine = true) :
    (s.line l).Ok whole s.eng.cap :=
  ⟨h.lines l (.inl hc), (h.capacity hc l hl).1, fun w => (hw w).lag hc l hl⟩

theorem Inv.ok (h : Inv s) (hw : whole → WholeInv s) : s.Ok whole where
  legal := h.legal
  latch := h.latch
  engine hc :=
    { rate := (h.rate hc).1
      cap_eq := (h.rate hc).2
      params := h.params hc
      mixing := h.mixing hc
      kinds := h.kinds hc
      ap := fun i => ⟨h.line_ok hw hc (l := .apIn i) rfl, h.line_ok hw hc (l := .apOut i) rfl, h.gains hc i,
        fun w => ⟨rfl, (hw w).paired hc i⟩⟩
      dl := fun i => h.line_ok hw hc (l := .dl i) rfl
      pre := h.line_ok hw hc (l := .pre) rfl }
  queue hc := ⟨h.slots hc, h.channel hc, h.copies hc⟩
  bench :=
    { line := h.lines .bench (.inr rfl)
      ap := ⟨_, _, ⟨h.lines .benchApIn (.inr rfl), rfl, fun w => (hw w).benchLag.1⟩,
        ⟨h.lines .benchApOut (.inr rfl), rfl, fun w => (hw w).benchLag.2⟩, h.benchGain, fun w => (hw w).benchPaired⟩ }

/-! ## Named updates -/

theorem State.Ok.returning (h : s.Ok whole) (r : Result) : (s.returning r).Ok whole :=
  ⟨h.legal, h.latch, h.engine, h.queue, h.bench⟩

theorem State.Ok.withPending (h : s.Ok whole) (p : List Command) : State.Ok whole { s with pending := p } :=
  ⟨h.legal, h.latch, h.engine, h.queue, h.bench⟩

theorem Allpass.Ok.withInLine {k : Parameters} {capIn capOut : Nat} {a : Allpass} {d : DelayLine} (h : a.Ok whole k capIn capOut)
    (hd : d.Ok whole capIn) (hdur : whole → d.dur = a.inLine.dur) : ({ a with inLine := d } : Allpass).Ok whole k capIn capOut :=
  ⟨hd, h.outLine, h.gain, fun hw => by simpa only [hdur hw] using h.paired hw⟩

theorem Allpass.Ok.withOutLine {k : Parameters} {capIn capOut : Nat} {a : Allpass} {d : DelayLine} (h : a.Ok whole k capIn capOut)
    (hd : d.Ok whole capOut) (hdur : whole → d.dur = a.outLine.dur) : ({ a with outLine := d } : Allpass).Ok whole k capIn capOut :=
  ⟨h.inLine, hd, h.gain, fun hw => by simpa only [hdur hw] using h.paired hw⟩

/-- A line replaced by one of its capacity that meets the same demand, and in an allpass has its duration. -/
theorem State.Ok.setLine {l : LineRef} {d : DelayLine} (h : s.Ok whole)
    (hd : ∀ cap, (s.line l).Ok (l.demand whole) cap → d.Ok (l.demand whole) cap)
    (hdur : whole → l.inAllpass = true → d.dur = (s.line l).dur) : (s.setLine l d).Ok whole := by
  have hap := h.bench.ap
  match l with
  | .pre => exact ⟨h.legal, h.latch, fun hc => (h.engine hc).withPre (hd _ (h.engine hc).pre), h.queue, h.bench⟩
  | .dl i =>
    exact ⟨h.legal, h.latch, fun hc => (h.engine hc).withDl (Quad.forall_get_set (h.engine hc).dl (hd _ ((h.engine hc).dl i)) i),
      h.queue, h.bench⟩
  | .apIn i =>
    refine ⟨h.legal, h.latch, fun hc => ?_, h.queue, h.bench⟩
    have ha := (h.engine hc).ap
    exact (h.engine hc).withAp (Quad.forall_get_set ha ((ha i).withInLine (hd _ (ha i).inLine) fun hw => hdur hw rfl) i)
  | .apOut i =>
    refine ⟨h.legal, h.latch, fun hc => ?_, h.queue, h.bench⟩
    have ha := (h.engine hc).ap
    exact (h.engine hc).withAp (Quad.forall_get_set ha ((ha i).withOutLine (hd _ (ha i).outLine) fun hw => hdur hw rfl) i)
  | .bench => exact ⟨h.legal, h.latch, h.engine, h.queue, (hd _ ⟨h.bench.line, rfl, False.elim⟩).wf, h.bench.ap⟩
  | .benchApIn =>
    obtain ⟨capIn, capOut, ha⟩ := hap
    exact ⟨h.legal, h.latch, h.engine, h.queue, h.bench.line, capIn, capOut,
      ha.withInLine (hd _ ha.inLine) fun hw => hdur hw rfl⟩
  | .benchApOut =>
    obtain ⟨capIn, capOut, ha⟩ := hap
    exact ⟨h.legal, h.latch, h.engine, h.queue, h.bench.line, capIn, capOut,
      ha.withOutLine (hd _ ha.outLine) fun hw => hdur hw rfl⟩

theorem State.Ok.setAllpass {r : ApRef} {v : Allpass} (h : s.Ok whole)
    (hv : ∀ capIn capOut, (s.allpass r).Ok whole s.par capIn capOut → v.Ok whole s.par capIn capOut) :
    (s.setAllpass r v).Ok whole := by
  cases r with
  | ap i =>
    refine ⟨h.legal, h.latch, fun hc => ?_, h.queue, h.bench⟩
    have ha := (h.engine hc).ap
    exact (h.engine hc).withAp (Quad.forall_get_set ha (hv _ _ (ha i)) i)
  | bench =>
    obtain ⟨capIn, capOut, ha⟩ := h.bench.ap
    exact ⟨h.legal, h.latch, h.engine, h.queue, h.bench.line, capIn, capOut, hv _ _ ha⟩

/-- A filter replaced by one of its kind. -/
theorem State.Ok.setDamp (h : s.Ok whole) {i : Fin 4} {d : Damp} (hd : d.kind = (s.eng.damp.get i).kind) :
    State.Ok whole { s with eng := { s.eng with damp := s.eng.damp.set i d } } := by
  refine ⟨h.legal, h.latch, fun hc => ?_, h.queue, h.bench⟩
  have hk := (h.engine hc).kinds
  exact (h.engine hc).withDamp (Quad.forall_get_set (P := fun d : Damp => d.kind = s.par.damping) hk (hd.trans (hk i)) i)

theorem State.Ok.setBiquad (h : s.Ok whole) {r : FilterRef} {b : Biquad} (hb : s.biquad r = some b) (b' : Biquad) :
    (s.setBiquad r b').Ok whole := by
  cases r with
  | damp i =>
    refine h.setDamp (d := .biquad b') ?_
    cases hd : s.eng.damp.get i with
    | biquad _ => rfl
    | onePole _ => simp [State.biquad, hd] at hb
  | bench => exact ⟨h.legal, h.latch, h.engine, h.queue, h.bench.line, h.bench.ap⟩

theorem State.Ok.setOnePole (h : s.Ok whole) {r : FilterRef} {o : OnePole} (ho : s.onePole r = some o) (o' : OnePole) :
    (s.setOnePole r o').Ok whole := by
  cases r with
  | damp i =>
    refine h.setDamp (d := .onePole o') ?_
    cases hd : s.eng.damp.get i with
    | onePole _ => rfl
    | biquad _ => simp [State.onePole, hd] at ho
  | bench => exact ⟨h.legal, h.latch, h.engine, h.queue, h.bench.line, h.bench.ap⟩

/-! ## Shared operations -/

theorem onLine_keeps {g : Stage} {l : LineRef} {f : DelayLine → DelayLine × Result} (h : s.Ok whole)
    (he : onLine s g l f = .next t)
    (hf : ∀ cap, (s.line l).Ok (l.demand whole) cap → (f (s.line l)).1.Ok (l.demand whole) cap)
    (hdur : whole → l.inAllpass = true → (f (s.line l)).1.dur = (s.line l).dur) : t.Ok whole := by
  obtain ⟨-, rfl⟩ := onLine_eq_next.mp he
  exact (h.setLine hf hdur).returning _

theorem onAllpass_keeps {g : Stage} {r : ApRef} {f : Allpass → Allpass × Result} (h : s.Ok whole)
    (he : onAllpass s g r f = .next t)
    (hf : ∀ capIn capOut, (s.allpass r).Ok whole s.par capIn capOut → (f (s.allpass r)).1.Ok whole s.par capIn capOut) :
    t.Ok whole := by
  obtain ⟨-, rfl⟩ := onAllpass_eq_next.mp he
  exact (h.setAllpass hf).returning _

theorem onBiquad_keeps {g : Stage} {r : FilterRef} {f : Biquad → Biquad × Result} (h : s.Ok whole)
    (he : onBiquad s g r f = .next t) : t.Ok whole := by
  obtain ⟨-, b, hb, rfl⟩ := onBiquad_eq_next.mp he
  exact (h.setBiquad hb _).returning _

theorem onOnePole_keeps {g : Stage} {r : FilterRef} {f : OnePole → OnePole × Result} (h : s.Ok whole)
    (he : onOnePole s g r f = .next t) : t.Ok whole := by
  obtain ⟨-, o, ho, rfl⟩ := onOnePole_eq_next.mp he
  exact (h.setOnePole ho _).returning _

theorem onSetter_keeps {e : Engine} (h : s.Ok whole) (he : onSetter s e = .next t)
    (hf : s.par.Usable → s.eng.Ok whole s.par → e.Ok whole s.par) : t.Ok whole := by
  obtain ⟨-, rfl⟩ := onSetter_eq_next.mp he
  exact ⟨h.legal, h.latch, fun hc => hf h.legal.usable (h.engine hc), h.queue, h.bench⟩

theorem onPure_keeps {g : Stage} {r : Result} (h : s.Ok whole) (he : onPure s g r = .next t) : t.Ok whole := by
  obtain ⟨-, rfl⟩ := onPure_eq_next.mp he
  exact h.returning r

theorem onSync_keeps {behind : Bool} {q : Queue} (h : s.Ok whole) (he : onSync s behind q = .next t)
    (hq : behind = true → s.par.cdcLag = .arbitrary → s.queue.Ok s.par → q.Ok s.par) : t.Ok whole := by
  obtain ⟨-, hb, hlag, rfl⟩ := onSync_eq_next.mp he
  exact ⟨h.legal, h.latch, h.engine, fun hc => hq hb hlag (h.queue hc), h.bench⟩

/-! ## Commands -/

theorem resetState_ok (h : s.Ok whole) {fs : F32} (hfs : resetAccepts s.par fs = true) : (resetState s fs).Ok whole :=
  ⟨h.legal, by simp [resetState], fun _ => freshEngine_ok h.legal.usable hfs,
    fun _ => emptyQueue_ok (by rw [List.length_map, List.length_range]; rfl), h.bench⟩

theorem resetFailedState_ok (h : s.Ok whole) : (resetFailedState s).Ok whole :=
  ⟨h.legal, by simp [resetFailedState], nofun, nofun, h.bench⟩

theorem execReset_keeps {fs : F32} (h : s.Ok whole) (he : execReset fs s = .next t) : t.Ok whole := by
  obtain ⟨-, rfl⟩ := accepted_eq_next.mp he
  split
  · exact resetState_ok h ‹_›
  · exact resetFailedState_ok h

theorem execEnq_keeps {w : MsgWord} (h : s.Ok whole) (he : execEnq w s = .next t) : t.Ok whole := by
  obtain ⟨-, rfl⟩ := accepted_eq_next.mp he
  exact ⟨h.legal, h.latch, h.engine, fun hc => enqueue_ok (h.queue hc) w, h.bench⟩

theorem execDeq_keeps (h : s.Ok whole) (he : execDeq s = .next t) : t.Ok whole := by
  obtain ⟨-, rfl⟩ := accepted_eq_next.mp he
  exact ⟨h.legal, h.latch, h.engine, fun hc => dequeue_ok (h.queue hc), h.bench⟩

theorem drainState_ok (h : s.Ok whole) (hc : s.cfgOk = true) : (drainState s).Ok whole := by
  refine ⟨h.legal, iff_of_true hc nofun, fun _ => ?_, fun _ => dequeue_ok (h.queue hc), h.bench⟩
  show Engine.Ok whole s.par (match (dequeue s.par s.queue).2 with
    | some word => applyMessage s.par s.eng word
    | none => s.eng)
  cases (dequeue s.par s.queue).2 with
  | some word => exact applyMessage_ok h.legal.usable (h.engine hc) word
  | none => exact h.engine hc

theorem renderState_ok (h : s.Ok whole) (hc : s.cfgOk = true) (xs : List F32) : (renderState s xs).Ok whole :=
  ⟨h.legal, iff_of_true hc nofun, fun _ => renderLoop_ok _ (h.engine hc) xs, h.queue, h.bench⟩

theorem execDrain_keeps (h : s.Ok whole) (he : execDrain s = .next t) : t.Ok whole := by
  obtain ⟨hacc, rfl⟩ := accepted_eq_next.mp he
  rw [Bool.and_eq_true] at hacc
  exact drainState_ok h hacc.1

theorem execRender_keeps {xs : List F32} (h : s.Ok whole) (he : execRender xs s = .next t) : t.Ok whole := by
  obtain ⟨hacc, rfl⟩ := accepted_eq_next.mp he
  rw [Bool.and_eq_true] at hacc
  exact renderState_ok h hacc.1 xs

theorem execCallback_keeps {xs : List F32} (h : s.Ok whole) (he : execCallback xs s = .next t) : t.Ok whole := by
  obtain ⟨hacc, rfl⟩ := accepted_eq_next.mp he
  rw [Bool.and_eq_true] at hacc
  exact renderState_ok (drainState_ok h hacc.1) hacc.1 xs

theorem afterSample_eq_unconfigured_iff {q : Seq} : q.afterSample = .unconfigured ↔ q = .unconfigured := by
  cases q <;> simp [Seq.afterSample]

theorem execFdnSample_keeps {x : F32} (h : s.Ok whole) (he : execFdnSample x s = .next t) : t.Ok whole := by
  obtain ⟨-, rfl⟩ := accepted_eq_next.mp he
  exact ⟨h.legal, h.latch.trans afterSample_eq_unconfigured_iff.not.symm, fun hc => fdnSample_ok _ (h.engine hc) x, h.queue, h.bench⟩

/-! ## Making a component -/

theorem execDlNew_keeps {l : LineRef} {c : Nat} (h : s.Ok whole) (he : execDlNew l c s = .next t) : t.Ok whole := by
  obtain ⟨hc, -, -, rfl⟩ := execDlNew_eq_next.mp he
  exact ⟨h.legal, h.latch, h.engine, h.queue, dlNew_wf (Nat.pos_of_ne_zero hc), h.bench.ap⟩

theorem execBqNew_keeps {b : FilterRef} (h : s.Ok whole) (he : execBqNew b s = .next t) : t.Ok whole := by
  obtain ⟨-, -, rfl⟩ := execBqNew_eq_next.mp he
  exact (h.setBiquad (r := .bench) rfl _).returning _

theorem execOpNew_keeps {f : FilterRef} {sr : F32} (h : s.Ok whole) (he : execOpNew f sr s = .next t) : t.Ok whole := by
  obtain ⟨-, -, rfl⟩ := execOpNew_eq_next.mp he
  exact (h.setOnePole (r := .bench) rfl _).returning _

theorem execApNew_keeps {a : ApRef} {c : Nat} {sr : F32} (h : s.Ok whole) (he : execApNew a c sr s = .next t) : t.Ok whole := by
  obtain ⟨hc, -, -, rfl⟩ := execApNew_eq_next.mp he
  exact ⟨h.legal, h.latch, h.engine, h.queue, h.bench.line, c, c, apNew_ok h.legal.usable hc sr⟩

/-! ## Delay lines and allpasses -/

theorem halfOfPair_dlSetDuration (l : LineRef) (d : Nat) : (Instr.dlSetDuration l d).halfOfPair = l.inAllpass := by cases l <;> rfl

/-- Where a DL_WRITE or DL_READ is no half of a pair, its line need not lag. -/
theorem not_demand_of_halfOfPair {l : LineRef} (hh : whole → (Instr.dlRead l).halfOfPair = false) : ¬ l.demand whole := by
  cases l with
  | bench => exact id
  | pre | dl _ | apIn _ | apOut _ | benchApIn | benchApOut => exact fun hw => absurd (hh hw) (by simp [Instr.halfOfPair])

theorem execDlSetDuration_keeps {l : LineRef} {d : Nat} (hh : whole → (Instr.dlSetDuration l d).halfOfPair = false)
    (h : s.Ok whole) (he : execDlSetDuration l d s = .next t) : t.Ok whole :=
  onLine_keeps h he (fun _ hl => dlSetDuration_ok hl d)
    fun hw hl => absurd (hh hw) (by rw [halfOfPair_dlSetDuration, hl]; decide)

theorem execDlWrite_keeps {l : LineRef} {x : F32} (hh : whole → (Instr.dlWrite l x).halfOfPair = false) (h : s.Ok whole)
    (he : execDlWrite l x s = .next t) : t.Ok whole :=
  onLine_keeps h he (fun _ hl => dlWrite_ok (not_demand_of_halfOfPair hh) hl x) fun _ _ => rfl

theorem execDlRead_keeps {l : LineRef} (hh : whole → (Instr.dlRead l).halfOfPair = false) (h : s.Ok whole)
    (he : execDlRead l s = .next t) : t.Ok whole :=
  onLine_keeps h he (fun _ hl => dlRead_ok (not_demand_of_halfOfPair hh) hl) fun _ _ => rfl

theorem execDlProcess_keeps {l : LineRef} {x : F32} (h : s.Ok whole) (he : execDlProcess l x s = .next t) : t.Ok whole :=
  onLine_keeps h he (fun _ hl => dlProcess_ok hl x) fun _ _ => dlProcess_dur _ x

theorem execDlProcessBlock_keeps {l : LineRef} {xs : List F32} (h : s.Ok whole) (he : execDlProcessBlock l xs s = .next t) :
    t.Ok whole :=
  onLine_keeps h he (fun _ hl => dlProcessBlock_ok hl xs) fun _ _ => dlProcessBlock_dur _ xs

theorem execApSetDuration_keeps {a : ApRef} {d : Nat} (h : s.Ok whole) (he : execApSetDuration a d s = .next t) : t.Ok whole :=
  onAllpass_keeps h he fun _ _ ha => apSetDuration_ok ha d

theorem execApSetDelay_keeps {a : ApRef} {seconds : F32} (h : s.Ok whole) (he : execApSetDelay a seconds s = .next t) : t.Ok whole :=
  onAllpass_keeps h he fun _ _ ha => apSetDelay_ok ha seconds

theorem execApSetGain_keeps {a : ApRef} {g : F32} (h : s.Ok whole) (he : execApSetGain a g s = .next t) : t.Ok whole :=
  onAllpass_keeps h he fun _ _ ha => apSetGain_ok h.legal.usable ha g

theorem execApProcess_keeps {a : ApRef} {x : F32} (h : s.Ok whole) (he : execApProcess a x s = .next t) : t.Ok whole :=
  onAllpass_keeps h he fun _ _ ha => apProcess_ok ha x

/-! ## Every operation -/

/-- Every operation keeps `Inv`, and every one but half of a pair keeps `WholeInv`. -/
theorem exec_keeps {i : Instr} (hh : whole → i.halfOfPair = false) (h : s.Ok whole) (he : exec i s = .next t) : t.Ok whole := by
  cases i with
  | size v | setSize v => exact onSetter_keeps h he fun hk e => setSize_ok hk e v
  | decay v | setDecay v => exact onSetter_keeps h he fun hk e => setDecay_ok hk e v
  | absorption v | setAbsorption v => exact onSetter_keeps h he fun hk e => setAbsorption_ok hk e v
  | hardness v | setHardness v | scSetHardness v => exact onSetter_keeps h he fun hk e => setHardness_ok hk e v
  | progression v | setProgression v => exact onSetter_keeps h he fun hk e => setProgression_ok hk e v
  | drywet v | setDrywet v => exact onSetter_keeps h he fun hk e => setDrywet_ok hk e v
  | width v | setWidth v => exact onSetter_keeps h he fun hk e => setWidth_ok hk e v
  | predelay v | setPredelay v => exact onSetter_keeps h he fun hk e => setPredelay_ok hk e v
  | rederiveLengths => exact onSetter_keeps h he fun _ => rederiveLengths_ok
  | applyAbsorption => exact onSetter_keeps h he fun _ => applyAbsorption_ok
  | reset sr => exact execReset_keeps h he
  | enq w => exact execEnq_keeps h he
  | deq => exact execDeq_keeps h he
  | drain => exact execDrain_keeps h he
  | render xs => exact execRender_keeps h he
  | callback xs => exact execCallback_keeps h he
  | fdnSample x => exact execFdnSample_keeps h he
  | dlNew l c => exact execDlNew_keeps h he
  | dlSetDuration l d => exact execDlSetDuration_keeps hh h he
  | dlWrite l x => exact execDlWrite_keeps hh h he
  | dlRead l => exact execDlRead_keeps hh h he
  | dlProcess l x => exact execDlProcess_keeps h he
  | dlProcessBlock l xs => exact execDlProcessBlock_keeps h he
  | bqSetLowpass _ _ _ | bqSetHighpass _ _ _ | bqSetBandpass _ _ _ | bqSetLowshelf _ _ _ | bqSetHighshelf _ _ _
  | bqSetPeaking _ _ _ _ | bqSetAllpass _ _ _ | bqSetNotch _ _ _ | bqProcess _ _ => exact onBiquad_keeps h he
  | bqNew _ => exact execBqNew_keeps h he
  | opNew _ _ => exact execOpNew_keeps h he
  | opSetFrequency _ _ | opProcess _ _ => exact onOnePole_keeps h he
  | apNew _ _ _ => exact execApNew_keeps h he
  | apSetDelay _ _ => exact execApSetDelay_keeps h he
  | apSetGain _ _ => exact execApSetGain_keeps h he
  | apProcess _ _ => exact execApProcess_keeps h he
  | apSetDuration _ _ => exact execApSetDuration_keeps h he
  | scProcess _ | coprime _ _ _ | hadamard _ | matvec _ _ => exact onPure_keeps h he
  | syncFwd => exact onSync_keeps h he fun hb hlag hq => syncForward_ok hq (of_decide_eq_true hb) hlag
  | syncBack => exact onSync_keeps h he fun hb hlag hq => syncBackward_ok hq (of_decide_eq_true hb) hlag

/-! ## Every step -/

/-- No port takes one half of a pair (`60_exceptions.md` R320). -/
theorem halfOfPair_of_command {i : Instr} (h : stage i = .command) : i.halfOfPair = false := by
  cases i with
  | dlWrite l _ | dlRead l | dlSetDuration l _ => cases l <;> simp [stage, LineRef.stage, Instr.halfOfPair] at h ⊢
  | _ => rfl

theorem step_keeps (h : s.Ok whole) (hs : step s = .next t) : t.Ok whole := by
  rcases step_eq_next.mp hs with ⟨-, rfl⟩ | ⟨c, rest, -, htake⟩
  · exact h
  · obtain ⟨i, -, -, hstage, he⟩ := takeCommand_eq_next.mp htake
    exact exec_keeps (fun _ => halfOfPair_of_command hstage) (h.withPending rest) he

end

end Machine

end Sys2Proof

open Sys2Proof.Machine in
/-- Settles O57: the case of each operation, for either invariant. -/
theorem wholeOperationsKeepLag : Obligations.WholeOperationsKeepLag := by
  unfold Obligations.WholeOperationsKeepLag
  exact ⟨fun _ _ _ h he => (exec_keeps False.elim (h.ok False.elim) he).inv,
    fun _ _ _ hh h he => (exec_keeps (fun _ => hh) (h.toInv.ok fun _ => h) he).wholeInv⟩

open Sys2Proof.Machine in
/-- Settles O56: a step takes at most one operation, and never one half of a pair. -/
theorem stepKeepsInvariant : Obligations.StepKeepsInvariant := by
  unfold Obligations.StepKeepsInvariant
  exact ⟨fun _ _ h hs => (step_keeps (h.toInv.ok fun _ => h) hs).wholeInv,
    fun _ _ h hs => (step_keeps (h.ok False.elim) hs).inv⟩
end

section
/-!
SUPPORT. What a RESET leaves (`70_reset_and_hazards.md` R340, `10_state.md` R37), part by part, at any parameters and any accepted
sample rate; `State.reset` is one such state.
-/

namespace Sys2Proof.Machine

/-! ## The engine of a fresh configuration -/

@[simp] theorem freshEngine_fs (k : Parameters) (sr : F32) : (freshEngine k sr).fs = sr := rfl
@[simp] theorem freshEngine_cap (k : Parameters) (sr : F32) : (freshEngine k sr).cap = capacityOf k sr := rfl
@[simp] theorem freshEngine_p (k : Parameters) (sr : F32) : (freshEngine k sr).p = resetParams k sr := rfl
@[simp] theorem freshEngine_fb (k : Parameters) (sr : F32) : (freshEngine k sr).fb = Quad.build fun _ => F32.zero := rfl
@[simp] theorem freshEngine_fbm (k : Parameters) (sr : F32) : (freshEngine k sr).fbm = mixMatrix k := rfl
@[simp] theorem freshEngine_pre (k : Parameters) (sr : F32) :
    (freshEngine k sr).pre = dlSetDuration (dlNew (capacityOf k sr)) (predelaySamples k.predelayRst sr) := rfl

theorem freshEngine_lengths (k : Parameters) (sr : F32) :
    (freshEngine k sr).len.toList = coprime (baseLength k k.sizeRst sr) k.progRst 8 :=
  lengthFile_toList (coprime_length _ _ _)

theorem freshEngine_ap (k : Parameters) (sr : F32) (i : Fin 4) :
    (freshEngine k sr).ap.get i =
      apSetDuration (apNew k (capacityOf k sr) sr) ((freshEngine k sr).len.toList.getD i.val 0) := by
  refine (applyLengths_ap (createdEngine k sr) (freshEngine k sr).len i).trans ?_
  simp only [createdEngine, Quad.get_build]

theorem freshEngine_dl (k : Parameters) (sr : F32) (i : Fin 4) :
    (freshEngine k sr).dl.get i =
      dlSetDuration (dlNew (capacityOf k sr)) ((freshEngine k sr).len.toList.getD (4 + i.val) 0) := by
  refine (applyLengths_dl (createdEngine k sr) (freshEngine k sr).len i).trans ?_
  simp only [createdEngine, Quad.get_build]

theorem freshEngine_damp (k : Parameters) (sr : F32) (i : Fin 4) :
    (freshEngine k sr).damp.get i = dampSetCutoff k sr (k.absorbRst sr) (dampNew k.damping sr) := by
  refine (Quad.get_map _ (createdEngine k sr).damp i).trans ?_
  simp only [createdEngine, Quad.get_build]
  rfl

/-- The feedback matrix written out (`10_state.md` R28). -/
theorem mixMatrix_eq (k : Parameters) :
    mixMatrix k =
      (let p := (Config.half.mul k.matrixScale).mul Config.one
       let m := (Config.half.mul k.matrixScale).mul Config.minusOne
       ⟨⟨p, p, p, p⟩, ⟨p, m, p, m⟩, ⟨p, p, m, m⟩, ⟨p, m, m, p⟩⟩) := rfl

/-- A one-pole filter after RESET: its cutoff set, its state zero (`42_onepole.md` R170, R171). -/
theorem freshEngine_damp_onePole {k : Parameters} (hk : k.damping = .onePole) (sr : F32) (i : Fin 4) :
    (freshEngine k sr).damp.get i = .onePole (opSetFrequency k.num (opNew sr) (k.absorbRst sr)) := by
  rw [freshEngine_damp, hk]
  rfl

theorem freshEngine_damp_biquad {k : Parameters} (hk : k.damping = .biquad) (sr : F32) (i : Fin 4) :
    (freshEngine k sr).damp.get i =
      .biquad (bqSetLowpass k bqNew ((k.absorbRst sr).div (sr.div Config.two)) k.dampQ) := by
  rw [freshEngine_damp, hk]
  rfl

/-- A biquad whose cutoff is set right after BQ_NEW has no history yet (`41_biquad.md` R141, R154). -/
theorem bqSetLowpass_bqNew_history (k : Parameters) (nf q : F32) :
    (let b := bqSetLowpass k bqNew nf q
     b.x1 = F32.zero ∧ b.x2 = F32.zero ∧ b.y1 = F32.zero ∧ b.y2 = F32.zero) := by
  have h : (bqSetLowpass k bqNew nf q).history = (F32.zero, F32.zero, F32.zero, F32.zero) := bqSetLowpass_history k bqNew nf q
  simpa [Biquad.history] using h

/-! ## Its lines -/

/-- Every line of the engine starts at index 0 with `+0` in every word. -/
theorem line_of_freshEngine {s : State} {k : Parameters} {sr : F32} (h : s.eng = freshEngine k sr) {l : LineRef}
    (hl : l.inEngine = true) :
    (s.line l).cap = capacityOf k sr ∧ (s.line l).w = 0 ∧ ∀ a, memRead (s.line l).buf a = F32.zero := by
  cases l with
  | pre => simp only [State.line, h, freshEngine_pre]; exact ⟨rfl, rfl, fun _ => rfl⟩
  | dl i => simp only [State.line, h, freshEngine_dl]; exact ⟨rfl, rfl, fun _ => rfl⟩
  | apIn i | apOut i => simp only [State.line, h, freshEngine_ap]; exact ⟨rfl, rfl, fun _ => rfl⟩
  | bench | benchApIn | benchApOut => simp [LineRef.inEngine] at hl

/-- The read index of a line that starts at 0 (`10_state.md` R30). -/
theorem lagged_zero (cap dur : Nat) : lagged 0 cap dur = (cap - dur) % cap := by rw [lagged, Nat.zero_add]

/-- A duration that AP_SET_DURATION has clamped is one the lines take as it is. -/
theorem apSetDuration_inLine_dur {a : Allpass} (h : 2 ≤ a.inLine.cap) (d : Nat) :
    (apSetDuration a d).inLine.dur = max 1 (min d (a.inLine.cap - 1)) := by
  show min (max 1 (min d (a.inLine.cap - 1))) (a.inLine.cap - 1) = _
  omega

/-- The allpass and the main delay line of channel `i` (`10_state.md` R37). -/
theorem freshEngine_channel {k : Parameters} {sr : F32} (hc : 2 ≤ capacityOf k sr) (i : Fin 4) :
    (let e := freshEngine k sr
     (e.ap.get i).inLine.dur = max 1 (min (e.len.toList.getD i.val 0) (e.cap - 1)) ∧
     (e.ap.get i).outLine.dur = (e.ap.get i).inLine.dur ∧
     (e.ap.get i).inLine.r = (e.cap - (e.ap.get i).inLine.dur) % e.cap ∧
     (e.ap.get i).outLine.r = (e.ap.get i).inLine.r ∧
     (e.ap.get i).gain = k.apGainRst ∧ (e.ap.get i).fs = sr ∧
     (e.dl.get i).dur = min (e.len.toList.getD (4 + i.val) 0) (e.cap - 1) ∧
     (e.dl.get i).r = (e.cap - (e.dl.get i).dur) % e.cap) := by
  simp only [freshEngine_ap, freshEngine_dl, freshEngine_cap]
  exact ⟨apSetDuration_inLine_dur (a := apNew k (capacityOf k sr) sr) hc _, rfl, lagged_zero _ _, rfl, rfl, rfl, rfl,
    lagged_zero _ _⟩

/-! ## The state -/

theorem execReset_accepted {s : State} {sr : F32} (hs : s.seq = .unconfigured ∨ s.seq = .idle)
    (h : resetAccepts s.par sr = true) : exec (.reset sr) s = .next (resetState s sr) :=
  accepted_eq_next.mpr ⟨canReset_iff.mpr hs, by rw [if_pos h]⟩

theorem execReset_failed {s : State} {sr : F32} (hs : s.seq = .unconfigured ∨ s.seq = .idle)
    (h : ¬ resetAccepts s.par sr = true) : exec (.reset sr) s = .next (resetFailedState s) :=
  accepted_eq_next.mpr ⟨canReset_iff.mpr hs, by rw [if_neg h]⟩

theorem table_legal : Parameters.table.Legal := by decide

theorem resetRate_accepted : resetAccepts Parameters.table State.resetRate = true := by decide

theorem Bench.initial_ok {whole : Prop} {k : Parameters} (hk : k.Usable) : (Bench.initial k).Ok whole k :=
  ⟨dlNew_wf (le_refl 1), 2, 2, apNew_ok hk (le_refl 2) F32.zero⟩

theorem reset_ok {whole : Prop} : State.reset.Ok whole where
  legal := table_legal
  latch := iff_of_true rfl nofun
  engine _ := freshEngine_ok table_legal.usable resetRate_accepted
  queue _ := emptyQueue_ok (List.length_replicate ..)
  bench := Bench.initial_ok table_legal.usable

end Sys2Proof.Machine

open Sys2Proof Sys2Proof.Machine

/-- Settles O7: the parts of a fresh engine; the second clause is the other branch of RESET's one test. -/
theorem resetLeavesTableState : Obligations.ResetLeavesTableState := by
  unfold Obligations.ResetLeavesTableState
  refine ⟨fun s sr hlegal hseq hmin hmax hfit => ?_, fun s sr hseq hfail => ?_, rfl, rfl⟩
  · have hacc : resetAccepts s.par sr = true := resetAccepts_iff.mpr ⟨hmin, hmax, hfit⟩
    have hslots : (resetState s sr).queue.slot.length = s.par.queueCapacity := by
      rw [resetState, emptyQueue, List.length_map, List.length_range]
    exact ⟨_, execReset_accepted hseq hacc, rfl, rfl, rfl, rfl, rfl, rfl, freshEngine_lengths _ _, rfl, mixMatrix_eq _,
      fun _ hl => line_of_freshEngine rfl hl, rfl, lagged_zero _ _, freshEngine_channel (hlegal.usable.capacity sr hacc),
      fun i => ⟨fun hk => ⟨_, freshEngine_damp_onePole hk sr i, rfl, rfl, rfl, rfl⟩,
        fun hk =>
          have ⟨hx1, hx2, hy1, hy2⟩ := bqSetLowpass_bqNew_history s.par _ s.par.dampQ
          ⟨_, freshEngine_damp_biquad hk sr i, hx1, hx2, hy1, hy2, rfl⟩⟩,
      hslots, rfl, rfl, rfl, rfl, rfl, rfl, rfl, rfl, rfl⟩
  · have hrej : ¬ resetAccepts s.par sr = true := fun h => hfail (resetAccepts_iff.mp h)
    exact ⟨_, execReset_failed hseq hrej, rfl, rfl, rfl, rfl, rfl, rfl, rfl, rfl⟩

/-- Settles O55: the fresh engine of legal parameters at an accepted rate, an empty queue, new stand-alone components. -/
theorem resetMeetsInvariants : Obligations.ResetMeetsInvariants := reset_ok.wholeInv

/-- The argument of `NUM.exp` in the one-pole of 48000.0 Hz: 12000.0 Hz is below half the rate, where the clamp leaves it. -/
theorem resetRate_opExponent :
    opExponent State.resetRate (Parameters.table.absorbRst State.resetRate) =
      (((F32.ofBits 0x40C90FDB#32).mul (F32.ofBits 0x463B8000#32)).div (F32.ofBits 0x473B8000#32)).negate := by decide

/-- Settles O6: the fresh engine at R3's table and 48000.0 Hz, its values evaluated. -/
theorem resetStateValues : Obligations.ResetStateValues := by
  unfold Obligations.ResetStateValues
  have hcap : capacityOf Parameters.table State.resetRate = 48001 := by decide
  have hlines (l : LineRef) (hl : l.inEngine = true) := line_of_freshEngine (s := State.reset) rfl hl
  refine ⟨rfl, rfl, rfl, rfl, rfl, hcap, by decide, by decide, rfl, by decide, fun i => ?_, fun i => ?_, ?_, by decide, by decide,
    by decide, by decide, by decide, by decide, rfl, rfl, rfl, rfl⟩
  · exact ⟨_, freshEngine_damp_onePole rfl State.resetRate i, rfl, rfl, congrArg Parameters.table.num.exp resetRate_opExponent, rfl⟩
  · obtain ⟨-, -, -, -, hgain, hfs, -⟩ := freshEngine_channel (k := Parameters.table) (sr := State.resetRate) (by decide) i
    exact ⟨hgain, hfs⟩
  · exact hcap ▸ hlines
end

section
/-!
SUPPORT. The parameter registers as a file by number (`10_state.md` R26): each setter replaces one register.
-/

namespace Sys2Proof.Machine

/-- The registers from their contents by number. -/
def Params.ofReg (r : Fin 8 → F32) : Params :=
  { size := r 0, decay := r 1, absorption := r 2, hardness := r 3, progression := r 4, drywet := r 5, width := r 6, predelayMs := r 7 }

@[simp] theorem Params.reg_ofReg (r : Fin 8 → F32) (u : Fin 8) : (Params.ofReg r).reg u = r u := by
  match u with | 0 | 1 | 2 | 3 | 4 | 5 | 6 | 7 => rfl

/-- The registers with register `t` replaced. -/
def Params.setReg (p : Params) (t : Fin 8) (x : F32) : Params := .ofReg (Function.update p.reg t x)

theorem Params.reg_setReg_same (p : Params) (t : Fin 8) (x : F32) : (p.setReg t x).reg t = x := by simp [Params.setReg]

theorem Params.reg_setReg_ne (p : Params) {t u : Fin 8} (h : u ≠ t) (x : F32) : (p.setReg t x).reg u = p.reg u := by
  simp [Params.setReg, h]

section
variable (k : Parameters) (e : Engine) (v : F32)

theorem setSize_p : (setSize k e v).p = e.p.setReg 0 (v.clamp k.sizeMin k.sizeMax) := rfl
theorem setDecay_p : (setDecay k e v).p = e.p.setReg 1 (v.clamp k.decayMin k.decayMax) := rfl
theorem setAbsorption_p : (setAbsorption k e v).p = e.p.setReg 2 (v.clamp k.absorbMin (k.absorbMax e.fs)) := rfl
theorem setHardness_p : (setHardness k e v).p = e.p.setReg 3 (v.clamp k.hardMin k.hardMax) := rfl
theorem setProgression_p : (setProgression k e v).p = e.p.setReg 4 (v.clamp k.progMin k.progMax) := rfl
theorem setDrywet_p : (setDrywet k e v).p = e.p.setReg 5 (v.clamp k.drywetMin k.drywetMax) := rfl
theorem setWidth_p : (setWidth k e v).p = e.p.setReg 6 (v.clamp k.widthMin k.widthMax) := rfl
theorem setPredelay_p : (setPredelay k e v).p = e.p.setReg 7 (v.clamp k.predelayMin k.predelayMax) := rfl

end

/-- Two operations that apply one setter, which replaces register `n`, complete alike inside a DRAIN. -/
theorem same_setter_stores {s : State} {i j : Instr} {e : Engine} {n : Fin 8} {x : F32} (hd : s.Draining)
    (hi : exec i s = onSetter s e) (hj : exec j s = onSetter s e) (hp : e.p = s.eng.p.setReg n x) :
    ∃ t, exec i s = .next t ∧ exec j s = .next t ∧ t.eng.p.reg n = x ∧ ∀ u : Fin 8, u ≠ n → t.eng.p.reg u = s.eng.p.reg u := by
  have hnext : onSetter s e = .next { s with eng := e, audioOut := .none } := onSetter_eq_next.mpr ⟨admits_iff.mpr hd, rfl⟩
  refine ⟨_, hi.trans hnext, hj.trans hnext, ?_, fun u hu => ?_⟩
  · show e.p.reg n = x
    rw [hp, Params.reg_setReg_same]
  · show e.p.reg u = s.eng.p.reg u
    rw [hp, Params.reg_setReg_ne _ hu]

end Sys2Proof.Machine

open Sys2Proof Sys2Proof.Machine

/-- Settles O15: a message and the setter of its tag apply one engine function, which replaces one register. -/
theorem messagesActAsSetters : Obligations.MessagesActAsSetters := by
  unfold Obligations.MessagesActAsSetters
  intro s v hd
  simp only [List.forall_mem_cons]
  exact ⟨same_setter_stores hd rfl rfl (setSize_p ..), same_setter_stores hd rfl rfl (setDecay_p ..),
    same_setter_stores hd rfl rfl (setAbsorption_p ..), same_setter_stores hd rfl rfl (setHardness_p ..),
    same_setter_stores hd rfl rfl (setProgression_p ..), same_setter_stores hd rfl rfl (setDrywet_p ..),
    same_setter_stores hd rfl rfl (setWidth_p ..), same_setter_stores hd rfl rfl (setPredelay_p ..), List.forall_mem_nil _⟩
end

section
/-!
SUPPORT. Making and setting an allpass (`43_allpass.md` R180 to R183).
-/

namespace Sys2Proof.Machine

/-- A new line: every word `+0`, write index 0, the longest duration, so that the read index is one ahead (`40_delayline.md` R120). -/
theorem dlNew_registers {c : Nat} (hc : 1 ≤ c) :
    (dlNew c).cap = c ∧ (dlNew c).dur = c - 1 ∧ (dlNew c).w = 0 ∧ (dlNew c).r = 1 % c ∧
      ∀ a, memRead (dlNew c).buf a = F32.zero :=
  ⟨rfl, rfl, rfl, (lagged_zero c (c - 1)).trans (by rw [Nat.sub_sub_self hc]), fun _ => rfl⟩

end Sys2Proof.Machine

open Sys2Proof Sys2Proof.Machine

/-- Settles O42: AP_NEW's three branches, and the setters at their stage; AP_SET_DELAY is AP_SET_DURATION of the delay in samples. -/
theorem allpassSetup : Obligations.AllpassSetup := by
  unfold Obligations.AllpassSetup
  refine fun s r => ⟨fun c sr hc hconf => ?_, fun c sr hc hr => ?_, fun c sr hc => ?_, fun hd => ?_⟩
  · refine ⟨_, execApNew_eq_next.mpr ⟨hc, rfl, admits_iff.mpr hconf, rfl⟩, rfl, rfl, rfl, ?_⟩
    have hline := dlNew_registers (show 1 ≤ c by omega)
    exact List.forall_mem_cons.mpr ⟨hline, List.forall_mem_cons.mpr ⟨hline, List.forall_mem_nil _⟩⟩
  · cases r with
    | bench => exact absurd rfl hr
    | ap i => exact if_neg (Nat.not_lt.mpr hc)
  · exact if_pos hc
  · have hstage : s.admits (ApRef.stage r .drain) = true := admits_iff.mpr hd
    exact ⟨fun _ => accepted_of hstage _, fun _ => accepted_of hstage _, fun _ => ⟨_, accepted_of hstage _, accepted_of hstage _⟩⟩
end

section
/-!
SUPPORT. Who may write what (`10_state.md` R21, R25 to R27, R35; `60_exceptions.md` R320): what a setter leaves of the engine, what an
operation of the audio agent leaves of the state, which operations write which registers, one rule per shared operation.
-/

namespace Sys2Proof.Machine

/-! ## What is kept -/

/-- The words, the write index and the capacity of a line stay. -/
structure DelayLine.KeepsMemory (l l' : DelayLine) : Prop where
  buf : l'.buf = l.buf
  w : l'.w = l.w
  cap : l'.cap = l.cap

theorem DelayLine.KeepsMemory.refl (l : DelayLine) : l.KeepsMemory l := ⟨rfl, rfl, rfl⟩

/-- Those of both lines of an allpass stay. -/
structure Allpass.KeepsMemory (a a' : Allpass) : Prop where
  inLine : a.inLine.KeepsMemory a'.inLine
  outLine : a.outLine.KeepsMemory a'.outLine

theorem Allpass.KeepsMemory.refl (a : Allpass) : a.KeepsMemory a := ⟨.refl _, .refl _⟩

/-- The configuration of the engine stays: the latch of RESET and the matrix (`10_state.md` R22, R28). -/
abbrev Engine.KeepsConfig (e e' : Engine) : Prop := e'.fs = e.fs ∧ e'.cap = e.cap ∧ e'.fbm = e.fbm

/-- What no setter touches stays (`46_fdn_engine.md` R257): the configuration, the feedback register, the memories. -/
structure Engine.KeepsSound (e e' : Engine) : Prop where
  config : e.KeepsConfig e'
  fb : e'.fb = e.fb
  ap : ∀ i, (e.ap.get i).KeepsMemory (e'.ap.get i)
  dl : ∀ i, (e.dl.get i).KeepsMemory (e'.dl.get i)
  pre : e.pre.KeepsMemory e'.pre

/-- What the audio agent does not write of the queue stays: the slots, `q_tail`, and the copies but for `q_head`'s under `ZERO`. -/
abbrev Queue.AudioKeeps (lag : CdcLag) (q q' : Queue) : Prop :=
  q'.slot = q.slot ∧ q'.tail = q.tail ∧ q'.tailSync = q.tailSync ∧ (lag = .arbitrary → q'.headSync = q.headSync)

/-- What the audio agent does not write stays (`10_state.md` R21). -/
structure State.AudioKeeps (s t : State) : Prop where
  par : t.par = s.par
  pending : t.pending = s.pending
  cfgOk : t.cfgOk = s.cfgOk
  cfgOut : t.cfgOut = s.cfgOut
  ctrlOut : t.ctrlOut = s.ctrlOut
  queue : s.queue.AudioKeeps s.par.cdcLag t.queue
  config : s.eng.KeepsConfig t.eng

/-- What an operation that is not named for a kind of register leaves of it. -/
structure WritesByName (i : Instr) (s t : State) : Prop where
  params : i.mayWriteParams = false → t.eng.p = s.eng.p
  lengths : i.mayWriteLengths = false → t.eng.len = s.eng.len
  feedback : i.computesSamples = false → i.agent ≠ .host → t.eng.fb = s.eng.fb
  samples : i.mayWriteSamples = false → ∀ l : LineRef, (s.line l).KeepsMemory (t.line l)

/-! ## The setters on the engine -/

section
variable (k : Parameters) (v : F32)

theorem Engine.KeepsSound.refl (e : Engine) : e.KeepsSound e :=
  ⟨⟨rfl, rfl, rfl⟩, rfl, fun _ => .refl _, fun _ => .refl _, .refl _⟩

/-- Other parameters change nothing of the sound. -/
theorem Engine.KeepsSound.ofParams {e e' : Engine} {p : Params} (h : ({ e with p := p } : Engine).KeepsSound e') : e.KeepsSound e' :=
  ⟨h.config, h.fb, h.ap, h.dl, h.pre⟩

theorem dlSetDuration_keepsMemory (l : DelayLine) (d : Nat) : l.KeepsMemory (dlSetDuration l d) := ⟨rfl, rfl, rfl⟩

theorem apSetDuration_keepsMemory (a : Allpass) (d : Nat) : a.KeepsMemory (apSetDuration a d) :=
  ⟨dlSetDuration_keepsMemory _ _, dlSetDuration_keepsMemory _ _⟩

theorem rederiveLengths_keepsSound (e : Engine) : e.KeepsSound (rederiveLengths k e) where
  config := ⟨rfl, rfl, rfl⟩
  fb := rfl
  ap i := by
    rw [rederiveLengths, applyLengths_ap]
    exact apSetDuration_keepsMemory _ _
  dl i := by
    rw [rederiveLengths, applyLengths_dl]
    exact dlSetDuration_keepsMemory _ _
  pre := .refl _

theorem applyAbsorption_keepsSound (e : Engine) : e.KeepsSound (applyAbsorption k e) :=
  ⟨⟨rfl, rfl, rfl⟩, rfl, fun _ => .refl _, fun _ => .refl _, .refl _⟩

theorem setSize_keepsSound (e : Engine) : e.KeepsSound (setSize k e v) := .ofParams (rederiveLengths_keepsSound k _)

theorem setDecay_keepsSound (e : Engine) : e.KeepsSound (setDecay k e v) := by
  refine ⟨⟨rfl, rfl, rfl⟩, rfl, fun i => ?_, fun _ => .refl _, .refl _⟩
  rw [setDecay, Quad.get_map]
  exact ⟨.refl _, .refl _⟩

theorem setAbsorption_keepsSound (e : Engine) : e.KeepsSound (setAbsorption k e v) := .ofParams (applyAbsorption_keepsSound k _)

theorem setHardness_keepsSound (e : Engine) : e.KeepsSound (setHardness k e v) := .ofParams (.refl _)

theorem setProgression_keepsSound (e : Engine) : e.KeepsSound (setProgression k e v) :=
  .ofParams (rederiveLengths_keepsSound k _)

theorem setDrywet_keepsSound (e : Engine) : e.KeepsSound (setDrywet k e v) := .ofParams (.refl _)

theorem setWidth_keepsSound (e : Engine) : e.KeepsSound (setWidth k e v) := .ofParams (.refl _)

theorem setPredelay_keepsSound (e : Engine) : e.KeepsSound (setPredelay k e v) :=
  ⟨⟨rfl, rfl, rfl⟩, rfl, fun _ => .refl _, fun _ => .refl _, dlSetDuration_keepsMemory _ _⟩

theorem applyMessage_keepsSound (e : Engine) (word : MsgWord) : e.KeepsSound (applyMessage k e word) := by
  unfold applyMessage
  split
  · exact setSize_keepsSound k _ e
  · exact setDecay_keepsSound k _ e
  · exact setAbsorption_keepsSound k _ e
  · exact setHardness_keepsSound k _ e
  · exact setProgression_keepsSound k _ e
  · exact setDrywet_keepsSound k _ e
  · exact setWidth_keepsSound k _ e
  · exact setPredelay_keepsSound k _ e
  · exact .refl e

end

theorem drainState_keepsSound (s : State) : s.eng.KeepsSound (drainState s).eng := by
  show s.eng.KeepsSound (match (dequeue s.par s.queue).2 with
    | some word => applyMessage s.par s.eng word
    | none => s.eng)
  cases (dequeue s.par s.queue).2 with
  | some word => exact applyMessage_keepsSound _ _ word
  | none => exact .refl _

theorem dequeue_audioKeeps (k : Parameters) (q : Queue) : q.AudioKeeps k.cdcLag (dequeue k q).1 := by
  by_cases h : q.tailSync = q.head
  · rw [dequeue_empty h]
    exact ⟨rfl, rfl, rfl, fun _ => rfl⟩
  · rw [dequeue_visible h]
    exact ⟨rfl, rfl, rfl, fun hlag => by rw [hlag, syncCopy]⟩

/-! ## The named lines after an update -/

section
variable {s t : State}

/-- A sound kept by the engine is kept by every named line, where the stand-alone components stay. -/
theorem Engine.KeepsSound.line (h : s.eng.KeepsSound t.eng) (hb : t.bench = s.bench) (l : LineRef) :
    (s.line l).KeepsMemory (t.line l) := by
  cases l with
  | pre => exact h.pre
  | dl i => exact h.dl i
  | apIn i => exact (h.ap i).inLine
  | apOut i => exact (h.ap i).outLine
  | bench | benchApIn | benchApOut => simp only [State.line, hb]; exact .refl _

theorem State.line_setLine_keepsMemory {l : LineRef} {d : DelayLine} (h : (s.line l).KeepsMemory d) (k : LineRef) :
    (s.line k).KeepsMemory ((s.setLine l d).line k) := by
  by_cases hk : k = l
  · subst hk; rwa [State.line_setLine_same]
  · rw [State.line_setLine_ne s hk]; exact .refl _

theorem get_set_keepsMemory {q : Quad Allpass} {i : Fin 4} {v : Allpass} (h : (q.get i).KeepsMemory v) (j : Fin 4) :
    (q.get j).KeepsMemory ((q.set i v).get j) := by
  rw [Quad.get_set]
  split
  · subst_vars; exact h
  · exact .refl _

theorem State.line_setAllpass_keepsMemory {r : ApRef} {v : Allpass} (h : (s.allpass r).KeepsMemory v) (l : LineRef) :
    (s.line l).KeepsMemory ((s.setAllpass r v).line l) := by
  cases r with
  | ap i =>
    cases l with
    | apIn j => exact (get_set_keepsMemory h j).inLine
    | apOut j => exact (get_set_keepsMemory h j).outLine
    | pre | dl _ | bench | benchApIn | benchApOut => exact .refl _
  | bench =>
    cases l with
    | benchApIn => exact h.inLine
    | benchApOut => exact h.outLine
    | pre | dl _ | bench | apIn _ | apOut _ => exact .refl _

/-! ## The audio agent, one rule per shared operation -/

theorem setLine_audioKeeps (s : State) (l : LineRef) (d : DelayLine) (r : Result) : s.AudioKeeps ((s.setLine l d).returning r) := by
  constructor <;> simp [Queue.AudioKeeps, Engine.KeepsConfig]

theorem setAllpass_audioKeeps (s : State) (l : ApRef) (d : Allpass) (r : Result) : s.AudioKeeps ((s.setAllpass l d).returning r) := by
  constructor <;> simp [Queue.AudioKeeps, Engine.KeepsConfig]

theorem setBiquad_audioKeeps (s : State) (l : FilterRef) (d : Biquad) (r : Result) : s.AudioKeeps ((s.setBiquad l d).returning r) := by
  constructor <;> simp [Queue.AudioKeeps, Engine.KeepsConfig]

theorem setOnePole_audioKeeps (s : State) (l : FilterRef) (d : OnePole) (r : Result) : s.AudioKeeps ((s.setOnePole l d).returning r) := by
  constructor <;> simp [Queue.AudioKeeps, Engine.KeepsConfig]

section
variable {g : Stage}

theorem onLine_audio {l : LineRef} {f : DelayLine → DelayLine × Result} (he : onLine s g l f = .next t) :
    s.During (LineRef.stage l g) ∧ s.AudioKeeps t := by
  obtain ⟨hg, rfl⟩ := onLine_eq_next.mp he
  exact ⟨admits_iff.mp hg, setLine_audioKeeps ..⟩

theorem onAllpass_audio {r : ApRef} {f : Allpass → Allpass × Result} (he : onAllpass s g r f = .next t) :
    s.During (ApRef.stage r g) ∧ s.AudioKeeps t := by
  obtain ⟨hg, rfl⟩ := onAllpass_eq_next.mp he
  exact ⟨admits_iff.mp hg, setAllpass_audioKeeps ..⟩

theorem onBiquad_audio {r : FilterRef} {f : Biquad → Biquad × Result} (he : onBiquad s g r f = .next t) :
    s.During (FilterRef.stage r g) ∧ s.AudioKeeps t := by
  obtain ⟨hg, _, _, rfl⟩ := onBiquad_eq_next.mp he
  exact ⟨admits_iff.mp hg, setBiquad_audioKeeps ..⟩

theorem onOnePole_audio {r : FilterRef} {f : OnePole → OnePole × Result} (he : onOnePole s g r f = .next t) :
    s.During (FilterRef.stage r g) ∧ s.AudioKeeps t := by
  obtain ⟨hg, _, _, rfl⟩ := onOnePole_eq_next.mp he
  exact ⟨admits_iff.mp hg, setOnePole_audioKeeps ..⟩

theorem onSetter_audio {e : Engine} (he : onSetter s e = .next t) (hk : s.eng.KeepsSound e) : s.During .drain ∧ s.AudioKeeps t := by
  obtain ⟨hg, rfl⟩ := onSetter_eq_next.mp he
  exact ⟨admits_iff.mp hg, rfl, rfl, rfl, rfl, rfl, ⟨rfl, rfl, rfl, fun _ => rfl⟩, hk.config⟩

theorem onPure_audio {r : Result} (he : onPure s g r = .next t) : s.During g ∧ s.AudioKeeps t := by
  obtain ⟨hg, rfl⟩ := onPure_eq_next.mp he
  exact ⟨admits_iff.mp hg, rfl, rfl, rfl, rfl, rfl, ⟨rfl, rfl, rfl, fun _ => rfl⟩, ⟨rfl, rfl, rfl⟩⟩

end

/-! ## The audio agent, the commands and the constructors -/

theorem configured_of_isIdle (h : (s.cfgOk && s.seq.isIdle) = true) : s.Configured := by
  rw [Bool.and_eq_true, isIdle_iff] at h
  exact ⟨h.1, by rw [h.2]; nofun⟩

theorem State.AudioKeeps.trans {u : State} (h : s.AudioKeeps t) (h' : t.AudioKeeps u) : s.AudioKeeps u := by
  obtain ⟨hpar, hpend, hok, hcfg, hctrl, ⟨hslot, htail, htsync, hhsync⟩, hfs, hcap, hfbm⟩ := h
  obtain ⟨hpar', hpend', hok', hcfg', hctrl', ⟨hslot', htail', htsync', hhsync'⟩, hfs', hcap', hfbm'⟩ := h'
  exact ⟨hpar'.trans hpar, hpend'.trans hpend, hok'.trans hok, hcfg'.trans hcfg, hctrl'.trans hctrl,
    ⟨hslot'.trans hslot, htail'.trans htail, htsync'.trans htsync, fun hlag => (hhsync' (hpar ▸ hlag)).trans (hhsync hlag)⟩,
    hfs'.trans hfs, hcap'.trans hcap, hfbm'.trans hfbm⟩

theorem drainState_audioKeeps (s : State) : s.AudioKeeps (drainState s) :=
  ⟨rfl, rfl, rfl, rfl, rfl, dequeue_audioKeeps _ _, (drainState_keepsSound s).config⟩

theorem renderState_audioKeeps (s : State) (xs : List F32) : s.AudioKeeps (renderState s xs) := by
  obtain ⟨-, hfs, hcap, -, hfbm⟩ := renderLoop_keeps s.par.num xs s.eng
  exact ⟨rfl, rfl, rfl, rfl, rfl, ⟨rfl, rfl, rfl, fun _ => rfl⟩, hfs, hcap, hfbm⟩

theorem execDrain_audio (he : execDrain s = .next t) : s.Configured ∧ s.AudioKeeps t := by
  obtain ⟨hacc, rfl⟩ := accepted_eq_next.mp he
  exact ⟨configured_of_isIdle hacc, drainState_audioKeeps s⟩

theorem execRender_audio {xs : List F32} (he : execRender xs s = .next t) : s.Configured ∧ s.AudioKeeps t := by
  obtain ⟨hacc, rfl⟩ := accepted_eq_next.mp he
  exact ⟨configured_of_isIdle hacc, renderState_audioKeeps s xs⟩

theorem execCallback_audio {xs : List F32} (he : execCallback xs s = .next t) : s.Configured ∧ s.AudioKeeps t := by
  obtain ⟨hacc, rfl⟩ := accepted_eq_next.mp he
  exact ⟨configured_of_isIdle hacc, (drainState_audioKeeps s).trans (renderState_audioKeeps _ xs)⟩

theorem execDeq_audio (he : execDeq s = .next t) : s.Configured ∧ s.AudioKeeps t := by
  obtain ⟨hacc, rfl⟩ := accepted_eq_next.mp he
  obtain ⟨hok, hseq⟩ := canDequeue_iff.mp hacc
  refine ⟨⟨hok, ?_⟩, rfl, rfl, rfl, rfl, rfl, dequeue_audioKeeps _ _, rfl, rfl, rfl⟩
  rcases hseq with h | h <;> rw [h] <;> nofun

theorem execFdnSample_audio {x : F32} (he : execFdnSample x s = .next t) : s.Rendering ∧ s.AudioKeeps t := by
  obtain ⟨hacc, rfl⟩ := accepted_eq_next.mp he
  exact ⟨admits_iff.mp hacc, rfl, rfl, rfl, rfl, rfl, ⟨rfl, rfl, rfl, fun _ => rfl⟩, ⟨rfl, rfl, rfl⟩⟩

theorem execDlNew_audio {l : LineRef} {c : Nat} (he : execDlNew l c s = .next t) : s.Configured ∧ s.AudioKeeps t := by
  obtain ⟨-, -, hg, rfl⟩ := execDlNew_eq_next.mp he
  exact ⟨admits_iff.mp hg, setLine_audioKeeps ..⟩

theorem execBqNew_audio {b : FilterRef} (he : execBqNew b s = .next t) : s.Configured ∧ s.AudioKeeps t := by
  obtain ⟨-, hg, rfl⟩ := execBqNew_eq_next.mp he
  exact ⟨admits_iff.mp hg, setBiquad_audioKeeps ..⟩

theorem execOpNew_audio {f : FilterRef} {sr : F32} (he : execOpNew f sr s = .next t) : s.Configured ∧ s.AudioKeeps t := by
  obtain ⟨-, hg, rfl⟩ := execOpNew_eq_next.mp he
  exact ⟨admits_iff.mp hg, setOnePole_audioKeeps ..⟩

theorem execApNew_audio {a : ApRef} {c : Nat} {sr : F32} (he : execApNew a c sr s = .next t) : s.Configured ∧ s.AudioKeeps t := by
  obtain ⟨-, -, hg, rfl⟩ := execApNew_eq_next.mp he
  exact ⟨admits_iff.mp hg, setAllpass_audioKeeps ..⟩

/-- Every operation of the audio agent is executed at its stage and leaves what the agent does not own. -/
theorem exec_audio {i : Instr} (ha : i.agent = .audio) (he : exec i s = .next t) : s.During (stage i) ∧ s.AudioKeeps t := by
  cases i with dsimp only [exec] at he
  | reset _ | enq _ | syncFwd | syncBack => simp [Instr.agent] at ha
  | size v | setSize v => exact onSetter_audio he (setSize_keepsSound _ v _)
  | decay v | setDecay v => exact onSetter_audio he (setDecay_keepsSound _ v _)
  | absorption v | setAbsorption v => exact onSetter_audio he (setAbsorption_keepsSound _ v _)
  | hardness v | setHardness v | scSetHardness v => exact onSetter_audio he (setHardness_keepsSound _ v _)
  | progression v | setProgression v => exact onSetter_audio he (setProgression_keepsSound _ v _)
  | drywet v | setDrywet v => exact onSetter_audio he (setDrywet_keepsSound _ v _)
  | width v | setWidth v => exact onSetter_audio he (setWidth_keepsSound _ v _)
  | predelay v | setPredelay v => exact onSetter_audio he (setPredelay_keepsSound _ v _)
  | rederiveLengths => exact onSetter_audio he (rederiveLengths_keepsSound _ _)
  | applyAbsorption => exact onSetter_audio he (applyAbsorption_keepsSound _ _)
  | deq => exact execDeq_audio he
  | drain => exact execDrain_audio he
  | render _ => exact execRender_audio he
  | callback _ => exact execCallback_audio he
  | fdnSample _ => exact execFdnSample_audio he
  | dlNew _ _ => exact execDlNew_audio he
  | dlSetDuration _ _ | dlWrite _ _ | dlRead _ | dlProcess _ _ | dlProcessBlock _ _ => exact onLine_audio he
  | bqNew _ => exact execBqNew_audio he
  | bqSetLowpass _ _ _ | bqSetHighpass _ _ _ | bqSetBandpass _ _ _ | bqSetLowshelf _ _ _ | bqSetHighshelf _ _ _
  | bqSetPeaking _ _ _ _ | bqSetAllpass _ _ _ | bqSetNotch _ _ _ | bqProcess _ _ => exact onBiquad_audio he
  | opNew _ _ => exact execOpNew_audio he
  | opSetFrequency _ _ | opProcess _ _ => exact onOnePole_audio he
  | apNew _ _ _ => exact execApNew_audio he
  | apSetDelay _ _ | apSetGain _ _ | apProcess _ _ | apSetDuration _ _ => exact onAllpass_audio he
  | scProcess _ | coprime _ _ _ | hadamard _ | matvec _ _ => exact onPure_audio he

/-! ## The other agents -/

theorem eq_reset_of_agent {i : Instr} (h : i.agent = .host) : ∃ sr, i = .reset sr := by
  cases i <;> simp [Instr.agent] at h ⊢

theorem eq_enq_of_agent {i : Instr} (h : i.agent = .control) : ∃ w, i = .enq w := by
  cases i <;> simp [Instr.agent] at h ⊢

theorem eq_sync_of_agent {i : Instr} (h : i.agent = .cdc) : i = .syncFwd ∨ i = .syncBack := by
  cases i <;> simp [Instr.agent] at h ⊢

theorem enqueue_head (k : Parameters) (q : Queue) (w : MsgWord) :
    (enqueue k q w).1.head = q.head ∧ (enqueue k q w).1.headSync = q.headSync := by
  by_cases h : q.tail - q.headSync = k.queueCapacity
  · rw [enqueue_full h]; exact ⟨rfl, rfl⟩
  · rw [enqueue_room h]; exact ⟨rfl, rfl⟩

/-- ENQ writes its slot, `q_tail` and its copy, and its own result (`47_parameter_channel.md` R271). -/
theorem execEnq_writes {w : MsgWord} (he : execEnq w s = .next t) :
    ∃ q r, t = { s with queue := q, ctrlOut := r } ∧ q.head = s.queue.head ∧ q.headSync = s.queue.headSync := by
  obtain ⟨-, rfl⟩ := accepted_eq_next.mp he
  exact ⟨_, _, rfl, enqueue_head _ _ w⟩

/-- A step of the CDC agent writes a copy (R274, R275). -/
theorem execSync_writes {i : Instr} (hi : i = .syncFwd ∨ i = .syncBack) (he : exec i s = .next t) :
    ∃ m n, t = { s with queue := { s.queue with tailSync := m, headSync := n } } := by
  rcases hi with rfl | rfl
  all_goals
    obtain ⟨-, -, -, rfl⟩ := onSync_eq_next.mp he
    exact ⟨_, _, rfl⟩

/-- RESET keeps the parameters and the presented transactions (log 29). -/
theorem execReset_keeps_par_pending {sr : F32} (he : execReset sr s = .next t) : t.par = s.par ∧ t.pending = s.pending := by
  obtain ⟨-, rfl⟩ := accepted_eq_next.mp he
  split <;> exact ⟨rfl, rfl⟩

/-! ## Which operations write which registers, one rule per shared operation -/

section
variable {i : Instr} {g : Stage}

theorem WritesByName.of_eq (he : t.eng = s.eng) (hb : t.bench = s.bench) : WritesByName i s t :=
  ⟨fun _ => by rw [he], fun _ => by rw [he], fun _ _ => by rw [he], fun _ => Engine.KeepsSound.line (he ▸ .refl _) hb⟩

theorem onLine_writes {l : LineRef} {f : DelayLine → DelayLine × Result} (he : onLine s g l f = .next t)
    (hf : i.mayWriteSamples = false → (s.line l).KeepsMemory (f (s.line l)).1) : WritesByName i s t := by
  obtain ⟨-, rfl⟩ := onLine_eq_next.mp he
  refine ⟨fun _ => by simp, fun _ => by simp, fun _ _ => by simp, fun hi k => ?_⟩
  rw [State.line_returning]
  exact State.line_setLine_keepsMemory (hf hi) k

theorem onAllpass_writes {r : ApRef} {f : Allpass → Allpass × Result} (he : onAllpass s g r f = .next t)
    (hf : i.mayWriteSamples = false → (s.allpass r).KeepsMemory (f (s.allpass r)).1) : WritesByName i s t := by
  obtain ⟨-, rfl⟩ := onAllpass_eq_next.mp he
  refine ⟨fun _ => by simp, fun _ => by simp, fun _ _ => by simp, fun hi k => ?_⟩
  rw [State.line_returning]
  exact State.line_setAllpass_keepsMemory (hf hi) k

theorem setBiquad_writes (s : State) (r : FilterRef) (b : Biquad) (q : Result) : WritesByName i s ((s.setBiquad r b).returning q) := by
  refine ⟨fun _ => by simp, fun _ => by simp, fun _ _ => by simp, fun _ k => ?_⟩
  rw [State.line_returning, State.line_setBiquad]
  exact .refl _

theorem setOnePole_writes (s : State) (r : FilterRef) (o : OnePole) (q : Result) :
    WritesByName i s ((s.setOnePole r o).returning q) := by
  refine ⟨fun _ => by simp, fun _ => by simp, fun _ _ => by simp, fun _ k => ?_⟩
  rw [State.line_returning, State.line_setOnePole]
  exact .refl _

theorem onBiquad_writes {r : FilterRef} {f : Biquad → Biquad × Result} (he : onBiquad s g r f = .next t) : WritesByName i s t := by
  obtain ⟨-, _, -, rfl⟩ := onBiquad_eq_next.mp he
  exact setBiquad_writes ..

theorem onOnePole_writes {r : FilterRef} {f : OnePole → OnePole × Result} (he : onOnePole s g r f = .next t) : WritesByName i s t := by
  obtain ⟨-, _, -, rfl⟩ := onOnePole_eq_next.mp he
  exact setOnePole_writes ..

theorem onSetter_writes {e : Engine} (he : onSetter s e = .next t) (hp : i.mayWriteParams = false → e.p = s.eng.p)
    (hl : i.mayWriteLengths = false → e.len = s.eng.len) (hk : s.eng.KeepsSound e) : WritesByName i s t := by
  obtain ⟨-, rfl⟩ := onSetter_eq_next.mp he
  exact ⟨hp, hl, fun _ _ => hk.fb, fun _ => Engine.KeepsSound.line hk rfl⟩

theorem onPure_writes {r : Result} (he : onPure s g r = .next t) : WritesByName i s t := by
  obtain ⟨-, rfl⟩ := onPure_eq_next.mp he
  exact .of_eq rfl rfl

end

/-! ## Which operations write which registers, the commands -/

theorem execReset_writes {sr : F32} : WritesByName (.reset sr) s t := ⟨nofun, nofun, fun _ h => absurd rfl h, nofun⟩

theorem execDeq_writes (he : execDeq s = .next t) : WritesByName .deq s t := by
  obtain ⟨-, rfl⟩ := accepted_eq_next.mp he
  exact .of_eq rfl rfl

theorem execDrain_writes (he : execDrain s = .next t) : WritesByName .drain s t := by
  obtain ⟨-, rfl⟩ := accepted_eq_next.mp he
  exact ⟨nofun, nofun, fun _ _ => (drainState_keepsSound s).fb, fun _ => (drainState_keepsSound s).line rfl⟩

theorem execRender_writes {xs : List F32} (he : execRender xs s = .next t) : WritesByName (.render xs) s t := by
  obtain ⟨-, rfl⟩ := accepted_eq_next.mp he
  obtain ⟨hp, -, -, hlen, -⟩ := renderLoop_keeps s.par.num xs s.eng
  exact ⟨fun _ => hp, fun _ => hlen, nofun, nofun⟩

theorem execFdnSample_writes {x : F32} (he : execFdnSample x s = .next t) : WritesByName (.fdnSample x) s t := by
  obtain ⟨-, rfl⟩ := accepted_eq_next.mp he
  exact ⟨fun _ => rfl, fun _ => rfl, nofun, nofun⟩

theorem execDlNew_writes {l : LineRef} {c : Nat} (he : execDlNew l c s = .next t) : WritesByName (.dlNew l c) s t := by
  obtain ⟨-, -, -, rfl⟩ := execDlNew_eq_next.mp he
  exact ⟨fun _ => rfl, fun _ => rfl, fun _ _ => rfl, nofun⟩

theorem execApNew_writes {a : ApRef} {c : Nat} {sr : F32} (he : execApNew a c sr s = .next t) : WritesByName (.apNew a c sr) s t := by
  obtain ⟨-, -, -, rfl⟩ := execApNew_eq_next.mp he
  exact ⟨fun _ => rfl, fun _ => rfl, fun _ _ => rfl, nofun⟩

theorem execBqNew_writes {b : FilterRef} (he : execBqNew b s = .next t) : WritesByName (.bqNew b) s t := by
  obtain ⟨-, -, rfl⟩ := execBqNew_eq_next.mp he
  exact setBiquad_writes ..

theorem execOpNew_writes {f : FilterRef} {sr : F32} (he : execOpNew f sr s = .next t) : WritesByName (.opNew f sr) s t := by
  obtain ⟨-, -, rfl⟩ := execOpNew_eq_next.mp he
  exact setOnePole_writes ..

theorem execEnq_writesByName {w : MsgWord} (he : execEnq w s = .next t) : WritesByName (.enq w) s t := by
  obtain ⟨_, _, rfl, -⟩ := execEnq_writes he
  exact .of_eq rfl rfl

theorem onSync_writes {i : Instr} {behind : Bool} {q : Queue} (he : onSync s behind q = .next t) : WritesByName i s t := by
  obtain ⟨-, -, -, rfl⟩ := onSync_eq_next.mp he
  exact .of_eq rfl rfl

/-- Every operation writes only the registers it is named for. -/
theorem exec_writes {i : Instr} (he : exec i s = .next t) : WritesByName i s t := by
  cases i with dsimp only [exec] at he
  | size v | setSize v => exact onSetter_writes he nofun nofun (setSize_keepsSound _ v _)
  | decay v | setDecay v => exact onSetter_writes he nofun (fun _ => rfl) (setDecay_keepsSound _ v _)
  | absorption v | setAbsorption v => exact onSetter_writes he nofun (fun _ => rfl) (setAbsorption_keepsSound _ v _)
  | hardness v | setHardness v | scSetHardness v => exact onSetter_writes he nofun (fun _ => rfl) (setHardness_keepsSound _ v _)
  | progression v | setProgression v => exact onSetter_writes he nofun nofun (setProgression_keepsSound _ v _)
  | drywet v | setDrywet v => exact onSetter_writes he nofun (fun _ => rfl) (setDrywet_keepsSound _ v _)
  | width v | setWidth v => exact onSetter_writes he nofun (fun _ => rfl) (setWidth_keepsSound _ v _)
  | predelay v | setPredelay v => exact onSetter_writes he nofun (fun _ => rfl) (setPredelay_keepsSound _ v _)
  | rederiveLengths => exact onSetter_writes he (fun _ => rfl) nofun (rederiveLengths_keepsSound _ _)
  | applyAbsorption => exact onSetter_writes he (fun _ => rfl) (fun _ => rfl) (applyAbsorption_keepsSound _ _)
  | reset _ => exact execReset_writes
  | enq _ => exact execEnq_writesByName he
  | deq => exact execDeq_writes he
  | drain => exact execDrain_writes he
  | render _ => exact execRender_writes he
  | callback _ => exact ⟨nofun, nofun, nofun, nofun⟩
  | fdnSample _ => exact execFdnSample_writes he
  | dlNew _ _ => exact execDlNew_writes he
  | dlSetDuration _ d => exact onLine_writes he fun _ => dlSetDuration_keepsMemory _ d
  | dlRead _ => exact onLine_writes he fun _ => ⟨rfl, rfl, rfl⟩
  | dlWrite _ _ | dlProcess _ _ | dlProcessBlock _ _ => exact onLine_writes he nofun
  | bqNew _ => exact execBqNew_writes he
  | bqSetLowpass _ _ _ | bqSetHighpass _ _ _ | bqSetBandpass _ _ _ | bqSetLowshelf _ _ _ | bqSetHighshelf _ _ _
  | bqSetPeaking _ _ _ _ | bqSetAllpass _ _ _ | bqSetNotch _ _ _ | bqProcess _ _ => exact onBiquad_writes he
  | opNew _ _ => exact execOpNew_writes he
  | opSetFrequency _ _ | opProcess _ _ => exact onOnePole_writes he
  | apNew _ _ _ => exact execApNew_writes he
  | apSetDelay _ _ | apSetDuration _ _ => exact onAllpass_writes he fun _ => apSetDuration_keepsMemory _ _
  | apSetGain _ _ => exact onAllpass_writes he fun _ => ⟨.refl _, .refl _⟩
  | apProcess _ _ => exact onAllpass_writes he nofun
  | scProcess _ | coprime _ _ _ | hadamard _ | matvec _ _ => exact onPure_writes he
  | syncFwd | syncBack => exact onSync_writes he

end

end Sys2Proof.Machine

open Sys2Proof Sys2Proof.Machine

/-- Settles O60: `exec_writes`, its clause on samples without the capacity. -/
theorem onlyNamedOperationsWrite : Obligations.OnlyNamedOperationsWrite := by
  unfold Obligations.OnlyNamedOperationsWrite
  intro i s t he
  have h := exec_writes he
  exact ⟨h.params, h.lengths, h.feedback, fun hi l => ⟨(h.samples hi l).buf, (h.samples hi l).w⟩⟩

/-- Settles O59: the four agents in turn; the host's RESET is held to the parameters and the presented transactions alone. -/
theorem agentsKeepToTheirState : Obligations.AgentsKeepToTheirState := by
  unfold Obligations.AgentsKeepToTheirState
  intro i s t he
  cases ha : i.agent with
  | audio =>
    obtain ⟨hstage, hpar, hpend, hok, hcfg, hctrl, ⟨hslot, htail, htsync, hhsync⟩, hconfig⟩ := exec_audio ha he
    exact ⟨hpar, hpend, fun _ => hstage, fun h => absurd h (by decide), nofun, nofun,
      fun _ => ⟨hslot, htail, htsync, hhsync, hctrl, hcfg⟩, fun _ => ⟨hok, hconfig⟩⟩
  | host =>
    obtain ⟨sr, rfl⟩ := eq_reset_of_agent ha
    obtain ⟨hpar, hpend⟩ := execReset_keeps_par_pending he
    exact ⟨hpar, hpend, nofun, fun h => absurd h (by decide), nofun, nofun, nofun, fun h => absurd rfl h⟩
  | control =>
    obtain ⟨w, rfl⟩ := eq_enq_of_agent ha
    obtain ⟨q, r, rfl, hhead, hhsync⟩ := execEnq_writes he
    exact ⟨rfl, rfl, nofun, fun _ => ⟨rfl, rfl, rfl, rfl, rfl, hhead⟩, fun _ => hhsync, nofun, nofun, fun _ => ⟨rfl, rfl, rfl, rfl⟩⟩
  | cdc =>
    obtain ⟨m, n, rfl⟩ := execSync_writes (eq_sync_of_agent ha) he
    exact ⟨rfl, rfl, nofun, fun _ => ⟨rfl, rfl, rfl, rfl, rfl, rfl⟩, nofun, fun _ => ⟨rfl, rfl, rfl⟩, nofun,
      fun _ => ⟨rfl, rfl, rfl, rfl⟩⟩
end

section
/-!
SUPPORT. The parameter queue as a first-in first-out channel (`20_memory.md` R69): the words it holds, what one operation sends and
takes, and the run of operations; then RENDER beside the steps of the other agents (R73).
-/

namespace Sys2Proof

/-- The operations that make a DEQ: on its own or as the first thing inside (`47_parameter_channel.md` R277, R279). -/
def Instr.dequeues (i : Instr) : Bool :=
  match i with
  | .deq | .drain | .callback _ => true
  | _ => false

namespace Machine

/-! ## The words in the queue -/

/-- The words not yet taken, oldest first: the slots from `q_head` to `q_tail - 1` (`10_state.md` R36). -/
def Queue.held (k : Parameters) (q : Queue) : List MsgWord :=
  (List.range (q.tail - q.head)).map fun n => slotRead k.queueCapacity q.slot (q.head + n)

/-- From `q` to `q'` the words `sent` go in at the end and the words `taken` come out at the front. -/
structure Queue.Conveys (k : Parameters) (q q' : Queue) (sent taken : List MsgWord) : Prop where
  ok : q'.Ok k
  head : q'.head = q.head + taken.length
  tail : q'.tail = q.tail + sent.length
  order : q.held k ++ sent = taken ++ q'.held k

section
variable {k : Parameters} {q q' q'' : Queue}

theorem Queue.held_of_empty (h : q.tail = q.head) : q.held k = [] := by simp [Queue.held, h]

/-- A queue with the same slots, `q_tail` and `q_head` conveys nothing, wherever its copies stand. -/
theorem Queue.Conveys.of_eq (ok : q'.Ok k) (hslot : q'.slot = q.slot) (htail : q'.tail = q.tail) (hhead : q'.head = q.head) :
    q.Conveys k q' [] [] :=
  ⟨ok, hhead, htail, by simp [Queue.held, hslot, htail, hhead]⟩

theorem Queue.Conveys.refl (ok : q.Ok k) : q.Conveys k q [] [] := .of_eq ok rfl rfl rfl

theorem Queue.Conveys.trans {sent taken sent' taken' : List MsgWord} (h : q.Conveys k q' sent taken)
    (h' : q'.Conveys k q'' sent' taken') : q.Conveys k q'' (sent ++ sent') (taken ++ taken') where
  ok := h'.ok
  head := by rw [h'.head, h.head, List.length_append, Nat.add_assoc]
  tail := by rw [h'.tail, h.tail, List.length_append, Nat.add_assoc]
  order :=
    calc q.held k ++ (sent ++ sent')
      _ = taken ++ (q'.held k ++ sent') := by rw [← List.append_assoc, h.order, List.append_assoc]
      _ = taken ++ taken' ++ q''.held k := by rw [h'.order, List.append_assoc]

/-- A write of the slot of `q_tail` leaves the slots of the words in a queue that is not full. -/
theorem slotRead_slotWrite_tail {c head tail n : Nat} {m : Slots} (hm : m.length = c) (hroom : tail < head + c)
    (hn : n < tail - head) (w : MsgWord) : slotRead c (slotWrite c m tail w) (head + n) = slotRead c m (head + n) := by
  have hne : (head + n) % c ≠ tail % c := fun he => by
    have hzero := Nat.sub_mod_eq_zero_of_mod_eq he.symm
    rw [Nat.mod_eq_of_lt (by omega)] at hzero
    omega
  rw [slotRead_slotWrite (by omega) hm, if_neg hne]

/-- ENQ puts its word behind the others, or fails and puts none (`47_parameter_channel.md` R271). -/
theorem enqueue_conveys (h : q.Ok k) (w : MsgWord) :
    q.Conveys k (enqueue k q w).1 (if (enqueue k q w).2 then [w] else []) [] := by
  have ok := enqueue_ok h w
  by_cases hfull : q.tail - q.headSync = k.queueCapacity
  · rw [enqueue_full hfull]
    exact .refl h
  · rw [enqueue_room hfull] at ok ⊢
    obtain ⟨hhs, hht, htt, hcap⟩ := h.channel
    have hroom : q.tail < q.head + k.queueCapacity := by omega
    have hlast : q.head + (q.tail - q.head) = q.tail := by omega
    refine ⟨ok, rfl, rfl, ?_⟩
    simp only [Queue.held, Nat.sub_add_comm (hht.trans htt), List.range_succ, List.map_append, List.map_singleton, hlast,
      slotRead_slotWrite_same (by omega) h.slots, if_true, List.nil_append]
    congr 1
    exact List.map_congr_left fun n hn => (slotRead_slotWrite_tail h.slots hroom (List.mem_range.mp hn) w).symm

/-- DEQ takes the oldest word, or none when it sees none (R272). -/
theorem dequeue_conveys (h : q.Ok k) : q.Conveys k (dequeue k q).1 [] (dequeue k q).2.toList := by
  have ok := dequeue_ok h
  by_cases hempty : q.tailSync = q.head
  · rw [dequeue_empty hempty]
    exact .refl h
  · rw [dequeue_visible hempty] at ok ⊢
    obtain ⟨hhs, hht, htt, hcap⟩ := h.channel
    have hcount : q.tail - q.head = (q.tail - (q.head + 1)) + 1 := by omega
    refine ⟨ok, rfl, rfl, ?_⟩
    simp [Queue.held, hcount, List.range_succ_eq_map, Nat.add_assoc, Nat.add_comm 1]

end

/-! ## The queue after one operation -/

section
variable {s t : State}

section
variable {g : Stage}

theorem onLine_queue {l : LineRef} {f : DelayLine → DelayLine × Result} (he : onLine s g l f = .next t) : t.queue = s.queue := by
  obtain ⟨-, rfl⟩ := onLine_eq_next.mp he
  simp

theorem onAllpass_queue {r : ApRef} {f : Allpass → Allpass × Result} (he : onAllpass s g r f = .next t) : t.queue = s.queue := by
  obtain ⟨-, rfl⟩ := onAllpass_eq_next.mp he
  simp

theorem onBiquad_queue {r : FilterRef} {f : Biquad → Biquad × Result} (he : onBiquad s g r f = .next t) : t.queue = s.queue := by
  obtain ⟨-, _, -, rfl⟩ := onBiquad_eq_next.mp he
  simp

theorem onOnePole_queue {r : FilterRef} {f : OnePole → OnePole × Result} (he : onOnePole s g r f = .next t) : t.queue = s.queue := by
  obtain ⟨-, _, -, rfl⟩ := onOnePole_eq_next.mp he
  simp

theorem onSetter_queue {e : Engine} (he : onSetter s e = .next t) : t.queue = s.queue := by
  obtain ⟨-, rfl⟩ := onSetter_eq_next.mp he
  rfl

theorem onPure_queue {r : Result} (he : onPure s g r = .next t) : t.queue = s.queue := by
  obtain ⟨-, rfl⟩ := onPure_eq_next.mp he
  rfl

end

/-- An operation of the audio agent that makes no DEQ leaves the queue. -/
theorem exec_queue {i : Instr} (ha : i.agent = .audio) (hd : i.dequeues = false) (he : exec i s = .next t) :
    t.queue = s.queue := by
  cases i with dsimp only [exec] at he
  | reset _ | enq _ | syncFwd | syncBack => simp [Instr.agent] at ha
  | deq | drain | callback _ => simp [Instr.dequeues] at hd
  | render _ | fdnSample _ => obtain ⟨-, rfl⟩ := accepted_eq_next.mp he; rfl
  | size _ | decay _ | absorption _ | hardness _ | progression _ | drywet _ | width _ | predelay _
  | setSize _ | setDecay _ | setAbsorption _ | setHardness _ | setProgression _ | setDrywet _ | setWidth _ | setPredelay _
  | scSetHardness _ | rederiveLengths | applyAbsorption => exact onSetter_queue he
  | dlNew _ _ => obtain ⟨-, -, -, rfl⟩ := execDlNew_eq_next.mp he; rfl
  | dlSetDuration _ _ | dlWrite _ _ | dlRead _ | dlProcess _ _ | dlProcessBlock _ _ => exact onLine_queue he
  | bqNew _ => obtain ⟨-, -, rfl⟩ := execBqNew_eq_next.mp he; rfl
  | bqSetLowpass _ _ _ | bqSetHighpass _ _ _ | bqSetBandpass _ _ _ | bqSetLowshelf _ _ _ | bqSetHighshelf _ _ _
  | bqSetPeaking _ _ _ _ | bqSetAllpass _ _ _ | bqSetNotch _ _ _ | bqProcess _ _ => exact onBiquad_queue he
  | opNew _ _ => obtain ⟨-, -, rfl⟩ := execOpNew_eq_next.mp he; rfl
  | opSetFrequency _ _ | opProcess _ _ => exact onOnePole_queue he
  | apNew _ _ _ => obtain ⟨-, -, -, rfl⟩ := execApNew_eq_next.mp he; rfl
  | apSetDelay _ _ | apSetGain _ _ | apProcess _ _ | apSetDuration _ _ => exact onAllpass_queue he
  | scProcess _ | coprime _ _ _ | hadamard _ | matvec _ _ => exact onPure_queue he

/-! ## What one operation sends and takes -/

theorem execEnq_eq_next {w : MsgWord} :
    execEnq w s = .next t ↔
      s.cfgOk = true ∧
        t = { s with queue := (enqueue s.par s.queue w).1, ctrlOut := .enqStatus (enqueue s.par s.queue w).2 } := accepted_eq_next

theorem execDeq_eq_next :
    execDeq s = .next t ↔
      s.canDequeue = true ∧
        t = { s with queue := (dequeue s.par s.queue).1, audioOut := .dequeued (dequeue s.par s.queue).2 } := accepted_eq_next

theorem dequeuedWord_eq (h : s.canDequeue = true) : dequeuedWord s = (dequeue s.par s.queue).2.toList := by
  have he : exec .deq s = .next _ := execDeq_eq_next.mpr ⟨h, rfl⟩
  rw [dequeuedWord, he]
  cases (dequeue s.par s.queue).2 <;> rfl

/-- The DEQ inside a DRAIN or a CALLBACK, which are accepted in IDLE (R277, R279). -/
theorem dequeuedWord_draining (h : (s.cfgOk && s.seq.isIdle) = true) :
    dequeuedWord { s with seq := .draining } = (dequeue s.par s.queue).2.toList := by
  rw [Bool.and_eq_true] at h
  exact dequeuedWord_eq (canDequeue_iff.mpr ⟨h.1, .inr rfl⟩)

theorem sentWord_enq {w : MsgWord} {ok : Bool} (h : t.ctrlOut = .enqStatus ok) :
    sentWord (.enq w) t = if ok then [w] else [] := by
  cases ok <;> simp [sentWord, h]

theorem execEnq_conveys {w : MsgWord} (h : s.queue.Ok s.par) (he : execEnq w s = .next t) :
    s.queue.Conveys s.par t.queue (sentWord (.enq w) t) [] := by
  obtain ⟨-, rfl⟩ := execEnq_eq_next.mp he
  rw [sentWord_enq rfl]
  exact enqueue_conveys h w

theorem execDeq_conveys (h : s.queue.Ok s.par) (he : execDeq s = .next t) :
    s.queue.Conveys s.par t.queue [] (dequeuedWord s) := by
  obtain ⟨hacc, rfl⟩ := execDeq_eq_next.mp he
  rw [dequeuedWord_eq hacc]
  exact dequeue_conveys h

theorem execDrain_conveys (h : s.queue.Ok s.par) (he : execDrain s = .next t) :
    s.queue.Conveys s.par t.queue [] (dequeuedWord { s with seq := .draining }) := by
  obtain ⟨hacc, rfl⟩ := accepted_eq_next.mp he
  rw [dequeuedWord_draining hacc, drainState_queue]
  exact dequeue_conveys h

theorem execCallback_conveys {xs : List F32} (h : s.queue.Ok s.par) (he : execCallback xs s = .next t) :
    s.queue.Conveys s.par t.queue [] (dequeuedWord { s with seq := .draining }) := by
  obtain ⟨hacc, rfl⟩ := accepted_eq_next.mp he
  rw [dequeuedWord_draining hacc, renderState_queue, drainState_queue]
  exact dequeue_conveys h

theorem execSyncFwd_conveys (h : s.queue.Ok s.par) (he : execSyncFwd s = .next t) : s.queue.Conveys s.par t.queue [] [] := by
  obtain ⟨-, hb, hlag, rfl⟩ := onSync_eq_next.mp he
  exact .of_eq (syncForward_ok h (of_decide_eq_true hb) hlag) rfl rfl rfl

theorem execSyncBack_conveys (h : s.queue.Ok s.par) (he : execSyncBack s = .next t) : s.queue.Conveys s.par t.queue [] [] := by
  obtain ⟨-, hb, hlag, rfl⟩ := onSync_eq_next.mp he
  exact .of_eq (syncBackward_ok h (of_decide_eq_true hb) hlag) rfl rfl rfl

/-- Every operation but RESET sends its word behind the others and takes the oldest. -/
theorem exec_conveys {i : Instr} (ha : i.agent ≠ .host) (h : s.queue.Ok s.par) (he : exec i s = .next t) :
    s.queue.Conveys s.par t.queue (sentWord i t) (takenWord i s) := by
  cases i with
  | reset _ => exact absurd rfl ha
  | enq _ => exact execEnq_conveys h he
  | deq => exact execDeq_conveys h he
  | drain => exact execDrain_conveys h he
  | callback _ => exact execCallback_conveys h he
  | syncFwd => exact execSyncFwd_conveys h he
  | syncBack => exact execSyncBack_conveys h he
  | _ =>
    rw [exec_queue rfl rfl he]
    exact .refl h

/-- The parameters are written by none (log 29). -/
theorem exec_par {i : Instr} (he : exec i s = .next t) : t.par = s.par := by
  cases ha : i.agent with
  | host =>
    obtain ⟨sr, rfl⟩ := eq_reset_of_agent ha
    exact (execReset_keeps_par_pending he).1
  | control =>
    obtain ⟨w, rfl⟩ := eq_enq_of_agent ha
    obtain ⟨_, _, rfl, -⟩ := execEnq_writes he
    rfl
  | cdc =>
    obtain ⟨_, _, rfl⟩ := execSync_writes (eq_sync_of_agent ha) he
    rfl
  | audio => exact (exec_audio ha he).2.par

end

/-! ## Runs -/

theorem channelRun_cons_eq_some {i : Instr} {rest : List Instr} {s u : State} {sent taken : List MsgWord} :
    channelRun s (i :: rest) = some (u, sent, taken) ↔
      ∃ t sent' taken', exec i s = .next t ∧ channelRun t rest = some (u, sent', taken') ∧
        sent = sentWord i t ++ sent' ∧ taken = takenWord i s ++ taken' := by
  rw [channelRun]
  cases exec i s with
  | next t =>
    cases hrun : channelRun t rest with
    | none => simp [hrun]
    | some r =>
      obtain ⟨v, sent', taken'⟩ := r
      simp [hrun, eq_comm, and_assoc]
  | fault _ => simp
  | refused _ => simp

/-- A run without a RESET conveys the words its ENQs sent to its DEQs, in order. -/
theorem channelRun_conveys {is : List Instr} {s u : State} {sent taken : List MsgWord} (ha : ∀ i ∈ is, i.agent ≠ .host)
    (h : s.queue.Ok s.par) (hrun : channelRun s is = some (u, sent, taken)) :
    s.queue.Conveys s.par u.queue sent taken := by
  induction is generalizing s sent taken with
  | nil =>
    simp only [channelRun, Option.some.injEq, Prod.mk.injEq] at hrun
    obtain ⟨rfl, rfl, rfl⟩ := hrun
    exact .refl h
  | cons i rest ih =>
    obtain ⟨t, sent', taken', he, hrest, rfl, rfl⟩ := channelRun_cons_eq_some.mp hrun
    obtain ⟨hi, hrestAgents⟩ := List.forall_mem_cons.mp ha
    have hstep := exec_conveys hi h he
    have hpar := exec_par he
    have hrun' := ih hrestAgents (hpar ▸ hstep.ok) hrest
    rw [hpar] at hrun'
    exact hstep.trans hrun'

/-! ## RENDER beside the other agents -/

section
variable {i : Instr} {xs : List F32} {s t : State}

theorem execRender_eq_next : exec (.render xs) s = .next t ↔ (s.cfgOk && s.seq.isIdle) = true ∧ t = renderState s xs :=
  accepted_eq_next

/-- ENQ and the SYNC steps write the queue and their own result alone (`10_state.md` R21). -/
theorem exec_queueStep_writes (hi : i.agent = .control ∨ i.agent = .cdc) (he : exec i s = .next t) :
    ∃ q r, t = { s with queue := q, ctrlOut := r } := by
  rcases hi with ha | ha
  · obtain ⟨w, rfl⟩ := eq_enq_of_agent ha
    obtain ⟨q, r, ht, -⟩ := execEnq_writes he
    exact ⟨q, r, ht⟩
  · obtain ⟨_, _, rfl⟩ := execSync_writes (eq_sync_of_agent ha) he
    exact ⟨_, _, rfl⟩

/-- ENQ and the SYNC steps read nothing a RENDER writes, and a RENDER nothing they write. -/
theorem exec_queueStep_renderState (hi : i.agent = .control ∨ i.agent = .cdc) :
    exec i (renderState s xs) = .next t ↔ ∃ m, exec i s = .next m ∧ t = renderState m xs := by
  rcases hi with ha | ha
  · obtain ⟨w, rfl⟩ := eq_enq_of_agent ha
    constructor
    · intro he
      obtain ⟨hok, rfl⟩ := accepted_eq_next.mp he
      exact ⟨_, accepted_of hok _, rfl⟩
    · rintro ⟨m, he, rfl⟩
      obtain ⟨hok, rfl⟩ := accepted_eq_next.mp he
      exact accepted_of hok _
  · rcases eq_sync_of_agent ha with rfl | rfl
    all_goals
      constructor
      · intro he
        obtain ⟨hok, hb, hlag, rfl⟩ := onSync_eq_next.mp he
        exact ⟨_, onSync_eq_next.mpr ⟨hok, hb, hlag, rfl⟩, rfl⟩
      · rintro ⟨m, he, rfl⟩
        obtain ⟨hok, hb, hlag, rfl⟩ := onSync_eq_next.mp he
        exact onSync_eq_next.mpr ⟨hok, hb, hlag, rfl⟩

/-- Whether a RENDER is accepted does not depend on what ENQ and the SYNC steps write. -/
theorem exec_queueStep_idle (hi : i.agent = .control ∨ i.agent = .cdc) (he : exec i s = .next t) :
    (t.cfgOk && t.seq.isIdle) = (s.cfgOk && s.seq.isIdle) := by
  obtain ⟨_, _, rfl⟩ := exec_queueStep_writes hi he
  rfl

end

end Machine

end Sys2Proof

open Sys2Proof Sys2Proof.Machine

/-- Settles O21: from an empty queue a run conveys what it sent, so that what it took and what the queue holds make up what it sent. -/
theorem fifoOrder : Obligations.FifoOrder := by
  unfold Obligations.FifoOrder
  intro s u is sent taken _ hslots htail htsync hhsync ha hrun
  have hinv : s.queue.QInv s.par := ⟨hhsync.le, htsync.ge, (htsync.trans htail.symm).le, by omega⟩
  have hok : s.queue.Ok s.par := ⟨hslots, hinv, fun _ => ⟨htsync.trans htail.symm, hhsync⟩⟩
  obtain ⟨⟨-, hinv', -⟩, hhead, htail', horder⟩ := channelRun_conveys ha hok hrun
  rw [Queue.held_of_empty htail, List.nil_append] at horder
  subst horder
  exact ⟨List.prefix_append _ _, hhead, htail', hinv', List.drop_left.symm⟩

/-- Settles O27: the queue step can be moved across what RENDER does, and decides nothing of whether RENDER is accepted. -/
theorem renderCommutesWithQueueSteps : Obligations.RenderCommutesWithQueueSteps := by
  unfold Obligations.RenderCommutesWithQueueSteps
  intro i xs s t hi
  constructor
  · rintro ⟨_, hr, he⟩
    obtain ⟨hacc, rfl⟩ := execRender_eq_next.mp hr
    obtain ⟨m, hm, rfl⟩ := (exec_queueStep_renderState hi).mp he
    exact ⟨m, hm, execRender_eq_next.mpr ⟨(exec_queueStep_idle hi hm).trans hacc, rfl⟩⟩
  · rintro ⟨m, hm, hr⟩
    obtain ⟨hacc, rfl⟩ := execRender_eq_next.mp hr
    exact ⟨renderState s xs, execRender_eq_next.mpr ⟨(exec_queueStep_idle hi hm).symm.trans hacc, rfl⟩,
      (exec_queueStep_renderState hi).mpr ⟨m, hm, rfl⟩⟩
end

section
/-!
SUPPORT. The encoding (`30_encoding.md` R91 to R97): what a message word decodes to and encodes from, the same for a command, and bit
patterns that are those of their values.
-/

namespace Sys2Proof

/-! ## Bit patterns -/

/-- The sign, the exponent field and the fraction of a pattern make it up (`00_scope.md` R4). -/
theorem F32.fields_toNat_eq (b : BitVec 32) :
    (if b.getLsbD 31 then 2147483648 else 0) + b.toNat / 8388608 % 256 * 8388608 + b.toNat % 8388608 = b.toNat := by
  have hb := b.isLt
  rw [BitVec.getLsbD, Nat.testBit_eq_decide_div_mod_eq]
  simp only [decide_eq_true_eq]
  split <;> omega

/-- Every value but NaN has one pattern. -/
theorem F32.toBits_ofBits {b : BitVec 32} (h : (F32.ofBits b).isNaN = false) : (F32.ofBits b).toBits = b := by
  have hb := F32.fields_toNat_eq b
  revert h
  unfold F32.ofBits
  dsimp only
  split
  · intro _
    rw [F32.toBits, hb, BitVec.ofNat_toNat, BitVec.setWidth_eq]
  · rename_i hexp
    split
    · rename_i hfrac
      intro _
      rw [show b.toNat / 8388608 % 256 = 255 by omega, hfrac] at hb
      cases hs : b.getLsbD 31 <;> exact BitVec.eq_of_toNat_eq (by rw [← hb, hs]; rfl)
    · exact nofun

theorem F32.eq_nan_of_isNaN {v : F32} (h : v.isNaN = true) : v = .nan := by
  cases v with
  | nan => rfl
  | finite _ _ _ | inf _ => cases h

/-! ## Message words -/

namespace Machine

theorem append_toNat (tag : BitVec 8) (b : BitVec 32) : (BitVec.append tag b).toNat = tag.toNat * 4294967296 + b.toNat := by
  have h := BitVec.toNat_append tag b
  rwa [← Nat.shiftLeft_add_eq_or_of_lt b.isLt, Nat.shiftLeft_eq] at h

@[simp] theorem msgTag_append (tag : BitVec 8) (b : BitVec 32) : msgTag (BitVec.append tag b) = tag.toNat := by
  have hb := b.isLt
  rw [msgTag, append_toNat]
  omega

@[simp] theorem msgValue_append (tag : BitVec 8) (b : BitVec 32) : msgValue (BitVec.append tag b) = F32.ofBits b := by
  rw [msgValue, append_toNat]
  congr 1
  apply BitVec.eq_of_toNat_eq
  rw [BitVec.toNat_ofNat]
  omega

theorem msgWord_eq_append (t : Nat) (v : F32) : msgWord t v = BitVec.append (BitVec.ofNat 8 t) v.toBits := by
  apply BitVec.eq_of_toNat_eq
  rw [append_toNat, msgWord, BitVec.toNat_ofNat, BitVec.toNat_ofNat]
  omega

theorem append_msgTag_bits (w : MsgWord) : BitVec.append (BitVec.ofNat 8 (msgTag w)) (BitVec.ofNat 32 w.toNat) = w := by
  have hw := w.isLt
  apply BitVec.eq_of_toNat_eq
  rw [append_toNat, msgTag, BitVec.toNat_ofNat, BitVec.toNat_ofNat]
  omega

theorem msgWord_of_not_nan {w : MsgWord} (h : (msgValue w).isNaN = false) : msgWord (msgTag w) (msgValue w) = w := by
  rw [msgWord_eq_append, msgValue, F32.toBits_ofBits h, append_msgTag_bits]

end Machine

open Machine

/-- The operation of the tag `t` (R92). -/
def Instr.message (t : Fin 8) (v : F32) : Instr :=
  match t with
  | 0 => .size v
  | 1 => .decay v
  | 2 => .absorption v
  | 3 => .hardness v
  | 4 => .progression v
  | 5 => .drywet v
  | 6 => .width v
  | 7 => .predelay v

theorem encode_message (t : Fin 8) (v : F32) : encode (.message t v) = .msg (msgWord t v) := by
  match t with | 0 | 1 | 2 | 3 | 4 | 5 | 6 | 7 => rfl

theorem decodeMsg_of_tag {w : MsgWord} {t : Fin 8} (h : msgTag w = t) : decodeMsg w = .ok (.message t (msgValue w)) := by
  rw [decodeMsg, h]
  match t with | 0 | 1 | 2 | 3 | 4 | 5 | 6 | 7 => rfl

theorem decodeMsg_reserved {w : MsgWord} (h : 8 ≤ msgTag w) : decodeMsg w = .error (.reservedTag (msgTag w)) := by
  obtain ⟨n, hn⟩ := Nat.exists_eq_add_of_le' h
  rw [decodeMsg, hn]
  rfl

/-- Everything a message word can decode to. -/
theorem decodeMsg_eq_ok {w : MsgWord} {i : Instr} :
    decodeMsg w = .ok i ↔ ∃ t : Fin 8, msgTag w = t ∧ i = .message t (msgValue w) := by
  constructor
  · intro h
    rcases Nat.lt_or_ge (msgTag w) 8 with hlt | hge
    · rw [decodeMsg_of_tag (t := ⟨_, hlt⟩) rfl] at h
      exact ⟨⟨_, hlt⟩, rfl, (Except.ok.inj h).symm⟩
    · rw [decodeMsg_reserved hge] at h
      cases h
  · rintro ⟨t, ht, rfl⟩
    exact decodeMsg_of_tag ht

theorem encode_of_decodeMsg {w : MsgWord} {i : Instr} (h : decodeMsg w = .ok i) : encode i = .msg (msgWord (msgTag w) (msgValue w)) := by
  obtain ⟨t, ht, rfl⟩ := decodeMsg_eq_ok.mp h
  rw [encode_message, ht]

theorem decode_encode_message (t : Fin 8) (v : F32) : decode (encode (.message t v)) = .ok (.message t v) := by
  have ht : t.val < 256 := by omega
  rw [encode_message, decode, decodeMsg_of_tag (msgTag_msgWord t ht v), msgValue_msgWord t ht]

/-! ## Commands -/

theorem Opcode.ofId_id (o : Opcode) : Opcode.ofId o.id = some o := by cases o <;> rfl

/-- The ids of R96 are those of the operations, each of one operation. -/
theorem Opcode.ofId_eq_some {id : BitVec 8} {o : Opcode} : Opcode.ofId id = some o ↔ o.id = id := by
  constructor
  · intro h
    simpa using List.find?_some h
  · rintro rfl
    exact o.ofId_id

/-- Everything a command can decode to. -/
theorem decodeCmd_eq_ok {c : Command} {i : Instr} :
    decodeCmd c = .ok i ↔ ∃ o : Opcode, o.id = c.id ∧ o.assemble c.operands = some i := by
  simp only [← Opcode.ofId_eq_some, decodeCmd]
  cases Opcode.ofId c.id with
  | none => simp
  | some o => cases h : o.assemble c.operands <;> simp [h]

theorem decode_of_assemble {o : Opcode} {ops : List Operand} {i : Instr} (h : o.assemble ops = some i) :
    decode (.cmd ⟨o.id, ops⟩) = .ok i :=
  decodeCmd_eq_ok.mpr ⟨o, rfl, h⟩

/-- An id with operands that are its own is the code of what they assemble to. -/
theorem encode_of_assemble {o : Opcode} {ops : List Operand} {i : Instr} (h : o.assemble ops = some i) :
    encode i = .cmd ⟨o.id, ops⟩ := by
  cases o with dsimp only [Opcode.assemble] at h
  | _ =>
    split at h
    · cases h
      rfl
    · cases h

/-- An id that R96 does not list (R97). -/
theorem decodeCmd_unlisted {c : Command} (h : ∀ o : Opcode, o.id ≠ c.id) : decodeCmd c = .error (.unknownId c.id) := by
  have hnone : Opcode.ofId c.id = none := Option.eq_none_iff_forall_ne_some.mpr fun o ho => h o (Opcode.ofId_eq_some.mp ho)
  rw [decodeCmd, hnone]

end Sys2Proof

open Sys2Proof Sys2Proof.Machine

/-- Settles O1: a message by its tag, every other operation by its id and its own operands. -/
theorem decodeOfEncode : Obligations.DecodeOfEncode := by
  unfold Obligations.DecodeOfEncode
  intro i
  cases i with
  | size v => exact decode_encode_message 0 v
  | decay v => exact decode_encode_message 1 v
  | absorption v => exact decode_encode_message 2 v
  | hardness v => exact decode_encode_message 3 v
  | progression v => exact decode_encode_message 4 v
  | drywet v => exact decode_encode_message 5 v
  | width v => exact decode_encode_message 6 v
  | predelay v => exact decode_encode_message 7 v
  | _ => exact decode_of_assemble rfl

/-- Settles O2: a command is its id and its operands, a message word its tag and the pattern of its value, which NaN alone shares. -/
theorem encodeOfDecode : Obligations.EncodeOfDecode := by
  unfold Obligations.EncodeOfDecode
  refine ⟨fun c i h => ?_, fun w i h hnan => ?_, fun w i h hnan => ?_⟩
  · obtain ⟨o, hid, hops⟩ := decodeCmd_eq_ok.mp h
    rw [encode_of_assemble hops, hid]
  · rw [encode_of_decodeMsg h, msgWord_of_not_nan hnan]
  · rw [encode_of_decodeMsg h, msgWord_eq_append, F32.eq_nan_of_isNaN hnan, F32.toBits]

/-- Settles O3: the tag and the value of the two parts put together. -/
theorem messageWordLayout : Obligations.MessageWordLayout := by
  unfold Obligations.MessageWordLayout
  intro b
  have htag (t : Fin 8) : decode (.msg (BitVec.append (BitVec.ofNat 8 t) b)) = .ok (.message t (F32.ofBits b)) := by
    rw [← msgValue_append (BitVec.ofNat 8 t) b]
    exact decodeMsg_of_tag ((msgTag_append _ b).trans (Nat.mod_eq_of_lt (by omega)))
  refine ⟨htag 0, htag 1, htag 2, htag 3, htag 4, htag 5, htag 6, htag 7, fun tag h => ?_⟩
  rw [← msgTag_append tag b] at h ⊢
  exact decodeMsg_reserved h

/-- Settles O4: the words evaluated. -/
theorem specWordsDecode : Obligations.SpecWordsDecode := by
  unfold Obligations.SpecWordsDecode
  decide
end

section
/-!
SUPPORT. A step by what is presented (`30_encoding.md` R97; `60_exceptions.md` R320, R321).
-/

namespace Sys2Proof.Machine

theorem step_of_nothing {s : State} (h : s.pending = []) : step s = .next s := by rw [step, h]

theorem step_of_presented {s : State} {c : Command} {rest : List Command} (h : s.pending = c :: rest) :
    step s = takeCommand c { s with pending := rest } := by rw [step, h]

theorem present_eq (i : Instr) (s : State) :
    present i s = if stage i = .command then exec i s else .refused .notAccepted := by
  unfold present
  cases stage i <;> rfl

theorem takeCommand_of_ok {c : Command} {i : Instr} (h : decodeCmd c = .ok i) (hw : i.wellFormed = true) (s : State) :
    takeCommand c s = if stage i = .command then exec i s else .refused .notAccepted := by
  rw [takeCommand, h, ← present_eq]
  exact if_pos hw

theorem takeCommand_of_error {c : Command} {e : DecodeError} (h : decodeCmd c = .error e) (s : State) :
    takeCommand c s = .refused .noOperation := by rw [takeCommand, h]

end Sys2Proof.Machine

open Sys2Proof Sys2Proof.Machine

/-- Settles O5: what is presented is decoded, then executed where it is a transaction; the last clause decodes what was encoded. -/
theorem stepRunsDecodedCommand : Obligations.StepRunsDecodedCommand := by
  unfold Obligations.StepRunsDecodedCommand
  refine ⟨fun s => step_of_nothing, fun s c rest i hp hd hw hs => ?_, fun s c rest i hp hd hw hs => ?_, fun s c rest hp hid => ?_,
    fun s c rest e hp hd => ?_, fun s i c rest hc hp hw => ?_⟩
  · rw [step_of_presented hp, takeCommand_of_ok hd hw, if_pos hs]
  · rw [step_of_presented hp, takeCommand_of_ok hd hw, if_neg hs]
  · rw [step_of_presented hp, takeCommand_of_error (decodeCmd_unlisted hid)]
  · rw [step_of_presented hp, takeCommand_of_error hd]
  · rw [step_of_presented hp, takeCommand_of_ok (hc ▸ decodeOfEncode i : decode (.cmd c) = .ok i) hw]
end

section
/-!
SUPPORT. Every operation completes at its stage, one rule per shared operation (`60_exceptions.md` R301, R320).
-/

namespace Sys2Proof.Machine

section
variable {s : State} {g : Stage}

theorem onBiquad_completes {r : FilterRef} (h : s.admits (FilterRef.stage r g) = true) (hr : (s.biquad r).isSome = true)
    (f : Biquad → Biquad × Result) : ∃ t, onBiquad s g r f = .next t := by
  obtain ⟨b, hb⟩ := Option.isSome_iff_exists.mp hr
  exact ⟨_, onBiquad_eq_next.mpr ⟨h, b, hb, rfl⟩⟩

theorem onOnePole_completes {r : FilterRef} (h : s.admits (FilterRef.stage r g) = true) (hr : (s.onePole r).isSome = true)
    (f : OnePole → OnePole × Result) : ∃ t, onOnePole s g r f = .next t := by
  obtain ⟨o, ho⟩ := Option.isSome_iff_exists.mp hr
  exact ⟨_, onOnePole_eq_next.mpr ⟨h, o, ho, rfl⟩⟩

theorem State.Idle.accepts (h : s.Idle) : (s.cfgOk && s.seq.isIdle) = true := by
  rw [Bool.and_eq_true, isIdle_iff]
  exact h

theorem State.Idle.configured (h : s.Idle) : s.Configured := configured_of_isIdle h.accepts

end

end Sys2Proof.Machine

open Sys2Proof Sys2Proof.Machine

/-- Settles O58: each operation by the rule of the shared operation it is made of. -/
theorem everyOperationCompletes : Obligations.EveryOperationCompletes := by
  unfold Obligations.EveryOperationCompletes
  intro i s hstage hw hbq hop hdlNew hapNew hbqNew hopNew hfwd hback
  have hidle (h : stage i = .command) : s.Idle := by rwa [if_pos h] at hstage
  have hadmits : s.admits (stage i) = true := by
    rw [admits_iff]
    split at hstage
    · rename_i h
      rw [h]
      exact hstage.configured
    · exact hstage
  cases i with
  | size _ | decay _ | absorption _ | hardness _ | progression _ | drywet _ | width _ | predelay _
  | setSize _ | setDecay _ | setAbsorption _ | setHardness _ | setProgression _ | setDrywet _ | setWidth _ | setPredelay _
  | scSetHardness _ | rederiveLengths | applyAbsorption | fdnSample _ | scProcess _ | coprime _ _ _ | hadamard _ | matvec _ _
  | dlSetDuration _ _ | dlWrite _ _ | dlRead _ | dlProcess _ _ | dlProcessBlock _ _
  | apSetDelay _ _ | apSetGain _ _ | apProcess _ _ | apSetDuration _ _ => exact ⟨_, accepted_of hadmits _⟩
  | reset _ => exact ⟨_, accepted_of (canReset_iff.mpr (.inr (hidle rfl).2)) _⟩
  | enq _ => exact ⟨_, accepted_of (hidle rfl).1 _⟩
  | deq => exact ⟨_, accepted_of (canDequeue_iff.mpr ⟨(hidle rfl).1, .inl (hidle rfl).2⟩) _⟩
  | drain | render _ | callback _ => exact ⟨_, accepted_of (hidle rfl).accepts _⟩
  | dlNew l c => exact ⟨_, execDlNew_eq_next.mpr ⟨Nat.ne_of_gt (of_decide_eq_true hw), hdlNew l c rfl, hadmits, rfl⟩⟩
  | bqNew b => exact ⟨_, execBqNew_eq_next.mpr ⟨hbqNew b rfl, hadmits, rfl⟩⟩
  | bqSetLowpass b _ _ | bqSetHighpass b _ _ | bqSetBandpass b _ _ | bqSetLowshelf b _ _ | bqSetHighshelf b _ _
  | bqSetPeaking b _ _ _ | bqSetAllpass b _ _ | bqSetNotch b _ _ | bqProcess b _ => exact onBiquad_completes hadmits (hbq b rfl) _
  | opNew f sr => exact ⟨_, execOpNew_eq_next.mpr ⟨hopNew f sr rfl, hadmits, rfl⟩⟩
  | opSetFrequency f _ | opProcess f _ => exact onOnePole_completes hadmits (hop f rfl) _
  | apNew a c sr => exact ⟨_, execApNew_eq_next.mpr ⟨of_decide_eq_true hw, hapNew a c sr rfl, hadmits, rfl⟩⟩
  | syncFwd =>
    obtain ⟨hlag, hb⟩ := hfwd rfl
    exact ⟨_, onSync_eq_next.mpr ⟨(hidle rfl).1, decide_eq_true hb, hlag, rfl⟩⟩
  | syncBack =>
    obtain ⟨hlag, hb⟩ := hback rfl
    exact ⟨_, onSync_eq_next.mpr ⟨(hidle rfl).1, decide_eq_true hb, hlag, rfl⟩⟩
end

section
/-!
SUPPORT. The status results (`30_encoding.md` R98) and the conditions (`60_exceptions.md` R302 to R306): when a value is out of a range,
what ENQ and DEQ answer, and that no other operation of the audio agent answers a status.
-/

namespace Sys2Proof

/-! ## Conditions -/

namespace F32

theorem lt_iff_not_le {a b : F32} (ha : a.isNaN = false) (hb : b.isNaN = false) : lt a b = true ↔ le b a = false := by
  rw [lt, Bool.and_eq_true, Bool.not_eq_true', and_iff_right_iff_imp]
  exact le_of_not_le hb ha

theorem le_nan (a : F32) : le a .nan = false := by cases a <;> rfl

theorem eq_nan_or (v : F32) : v = .nan ∨ v.isNaN = false := by
  cases h : v.isNaN with
  | false => exact .inr rfl
  | true => exact .inl (eq_nan_of_isNaN h)

/-- What a lower bound excludes: NaN, and what lies below it. -/
theorem not_le_iff {lo v : F32} (hlo : lo.isNaN = false) : le lo v = false ↔ v.isNaN = true ∨ lt v lo = true := by
  rcases eq_nan_or v with rfl | hv
  · exact iff_of_true (le_nan lo) (.inl rfl)
  · rw [lt_iff_not_le hv hlo, hv]
    simp

/-- `clamp` leaves what lies in the range, and nothing else (`00_scope.md` R13). -/
theorem clamp_eq_self_iff {v lo hi : F32} (h : le lo hi = true) : v.clamp lo hi = v ↔ le lo v = true ∧ le v hi = true := by
  refine ⟨fun he => ?_, fun hv => clamp_of_within hv.1 hv.2⟩
  have hr := clamp_range (v := v) h
  rwa [he] at hr

end F32

namespace Machine

theorem cfgRangeMet_iff {v lo hi : F32} (hlo : lo.isNaN = false) (hhi : hi.isNaN = false) :
    cfgRangeMet v lo hi = true ↔ v.isNaN = true ∨ F32.lt v lo = true ∨ F32.lt hi v = true := by
  rcases F32.eq_nan_or v with rfl | hv
  · simp [cfgRangeMet, F32.le_nan, F32.isNaN]
  · rw [cfgRangeMet, F32.lt_iff_not_le hv hlo, F32.lt_iff_not_le hhi hv, hv]
    simp

theorem clamp_ne_iff_cfgRangeMet {v lo hi : F32} (h : F32.le lo hi = true) : v.clamp lo hi ≠ v ↔ cfgRangeMet v lo hi = true := by
  rw [Ne, F32.clamp_eq_self_iff h]
  simp [cfgRangeMet, imp_iff_not_or]

theorem resetFailMet_iff {k : Parameters} (hk : k.Legal) (sr : F32) :
    resetFailMet k sr = true ↔
      sr.isNaN = true ∨ F32.lt sr k.srMin = true ∨ F32.lt k.srMax sr = true ∨ k.lineMemWords < capacityOf k sr := by
  obtain ⟨-, -, -, -, -, -, -, -, -, hle, -⟩ := hk
  rw [← or_assoc, ← F32.not_le_iff (F32.not_nan_of_le hle).1]
  simp [resetFailMet, resetAccepts, or_assoc]

theorem capRangeMet_iff {l : DelayLine} {d : Nat} : capRangeMet l d = true ↔ l.cap - 1 < d := decide_eq_true_iff

theorem dlSetDuration_dur (l : DelayLine) (d : Nat) : (dlSetDuration l d).dur = min d (l.cap - 1) := rfl

theorem queueFullMet_iff {s : State} : queueFullMet s = true ↔ s.queue.tail - s.queue.headSync = s.par.queueCapacity := decide_eq_true_iff

/-! ## Status results -/

/-- ENQ fails on a queue that looks full and on no other (`47_parameter_channel.md` R271). -/
theorem enqueue_status (s : State) (w : MsgWord) : (enqueue s.par s.queue w).2 = !queueFullMet s := by
  by_cases h : s.queue.tail - s.queue.headSync = s.par.queueCapacity
  · rw [enqueue_full h, queueFullMet_iff.mpr h]; rfl
  · rw [enqueue_room h, Bool.eq_false_iff.mpr (mt queueFullMet_iff.mp h)]; rfl

theorem resetStatus_bit (failed : Bool) : (Result.resetStatus !failed).statusBit = some (if failed then 0#1 else 1#1) := by
  cases failed <;> rfl

theorem enqStatus_bit (failed : Bool) : (Result.enqStatus !failed).statusBit = some (if failed then 0#1 else 1#1) := by
  cases failed <;> rfl

/-- DEQ takes no word exactly when the queue looks empty (R272). -/
theorem dequeued_bit (k : Parameters) (q : Queue) :
    (Result.dequeued (dequeue k q).2).statusBit = some (if q.tailSync = q.head then 0#1 else 1#1) := by
  by_cases h : q.tailSync = q.head
  · rw [dequeue_empty h, if_pos h]; rfl
  · rw [dequeue_visible h, if_neg h]; rfl

/-- RESET succeeds or fails as RESET_FAIL says (`70_reset_and_hazards.md` R340, R341). -/
theorem execReset_completes {s : State} (hs : s.seq = .unconfigured ∨ s.seq = .idle) (sr : F32) :
    ∃ t, exec (.reset sr) s = .next t ∧ t.cfgOut = .resetStatus (!resetFailMet s.par sr) ∧ t.cfgOk = !resetFailMet s.par sr := by
  rw [resetFailMet, Bool.not_not]
  by_cases h : resetAccepts s.par sr = true
  · rw [h]
    exact ⟨_, execReset_accepted hs h, rfl, rfl⟩
  · rw [Bool.eq_false_iff.mpr h]
    exact ⟨_, execReset_failed hs h, rfl, rfl⟩

/-! ## What the audio agent returns -/

section
variable {s t : State} {g : Stage}

theorem onLine_status {l : LineRef} {f : DelayLine → DelayLine × Result} (he : onLine s g l f = .next t)
    (hf : ∀ d, (f d).2.statusBit = none) : t.audioOut.statusBit = none := by
  obtain ⟨-, rfl⟩ := onLine_eq_next.mp he
  exact hf _

theorem onAllpass_status {r : ApRef} {f : Allpass → Allpass × Result} (he : onAllpass s g r f = .next t)
    (hf : ∀ a, (f a).2.statusBit = none) : t.audioOut.statusBit = none := by
  obtain ⟨-, rfl⟩ := onAllpass_eq_next.mp he
  exact hf _

theorem onBiquad_status {r : FilterRef} {f : Biquad → Biquad × Result} (he : onBiquad s g r f = .next t)
    (hf : ∀ b, (f b).2.statusBit = none) : t.audioOut.statusBit = none := by
  obtain ⟨-, _, -, rfl⟩ := onBiquad_eq_next.mp he
  exact hf _

theorem onOnePole_status {r : FilterRef} {f : OnePole → OnePole × Result} (he : onOnePole s g r f = .next t)
    (hf : ∀ o, (f o).2.statusBit = none) : t.audioOut.statusBit = none := by
  obtain ⟨-, _, -, rfl⟩ := onOnePole_eq_next.mp he
  exact hf _

theorem onSetter_status {e : Engine} (he : onSetter s e = .next t) : t.audioOut.statusBit = none := by
  obtain ⟨-, rfl⟩ := onSetter_eq_next.mp he
  rfl

theorem onPure_status {r : Result} (he : onPure s g r = .next t) (hr : r.statusBit = none) : t.audioOut.statusBit = none := by
  obtain ⟨-, rfl⟩ := onPure_eq_next.mp he
  exact hr

/-- No operation of the audio agent but DEQ answers a status (R98). -/
theorem exec_audio_status {i : Instr} (ha : i.agent = .audio) (hd : i ≠ .deq) (he : exec i s = .next t) :
    t.audioOut.statusBit = none := by
  cases i with dsimp only [exec] at he
  | reset _ | enq _ | syncFwd | syncBack => simp [Instr.agent] at ha
  | deq => exact absurd rfl hd
  | drain | render _ | callback _ | fdnSample _ => obtain ⟨-, rfl⟩ := accepted_eq_next.mp he; rfl
  | size _ | decay _ | absorption _ | hardness _ | progression _ | drywet _ | width _ | predelay _
  | setSize _ | setDecay _ | setAbsorption _ | setHardness _ | setProgression _ | setDrywet _ | setWidth _ | setPredelay _
  | scSetHardness _ | rederiveLengths | applyAbsorption => exact onSetter_status he
  | dlNew _ _ => obtain ⟨-, -, -, rfl⟩ := execDlNew_eq_next.mp he; rfl
  | dlSetDuration _ _ | dlWrite _ _ | dlRead _ | dlProcess _ _ | dlProcessBlock _ _ => exact onLine_status he fun _ => rfl
  | bqNew _ => obtain ⟨-, -, rfl⟩ := execBqNew_eq_next.mp he; rfl
  | bqSetLowpass _ _ _ | bqSetHighpass _ _ _ | bqSetBandpass _ _ _ | bqSetLowshelf _ _ _ | bqSetHighshelf _ _ _
  | bqSetPeaking _ _ _ _ | bqSetAllpass _ _ _ | bqSetNotch _ _ _ | bqProcess _ _ => exact onBiquad_status he fun _ => rfl
  | opNew _ _ => obtain ⟨-, -, rfl⟩ := execOpNew_eq_next.mp he; rfl
  | opSetFrequency _ _ | opProcess _ _ => exact onOnePole_status he fun _ => rfl
  | apNew _ _ _ => obtain ⟨-, -, -, rfl⟩ := execApNew_eq_next.mp he; rfl
  | apSetDelay _ _ | apSetGain _ _ | apProcess _ _ | apSetDuration _ _ => exact onAllpass_status he fun _ => rfl
  | scProcess _ | coprime _ _ _ | hadamard _ | matvec _ _ => exact onPure_status he rfl

end

end Machine

end Sys2Proof

open Sys2Proof Sys2Proof.Machine

/-- Settles O33: RESET, ENQ and DEQ answer as their conditions say, the rest of the audio agent by `exec_audio_status`. -/
theorem statusAndConditions : Obligations.StatusAndConditions := by
  unfold Obligations.StatusAndConditions
  refine ⟨fun s sr hk hs => ⟨resetFailMet_iff hk sr, ?_⟩, fun s w hc => ⟨queueFullMet_iff, ?_⟩, fun s hb => ?_,
    fun i s t => exec_audio_status, fun v lo hi hlo hhi h => ?_, fun l d => ?_, rfl⟩
  · obtain ⟨t, he, hout, hok⟩ := execReset_completes hs sr
    exact ⟨t, he, by rw [hout, resetStatus_bit], hok⟩
  · refine ⟨_, execEnq_eq_next.mpr ⟨hc, rfl⟩, ?_, fun h => ?_⟩
    · show (Result.enqStatus (enqueue s.par s.queue w).2).statusBit = _
      rw [enqueue_status, enqStatus_bit]
    · exact congrArg Prod.fst (enqueue_full (queueFullMet_iff.mp h))
  · exact ⟨_, execDeq_eq_next.mpr ⟨canDequeue_iff.mpr hb, rfl⟩, dequeued_bit _ _⟩
  · exact ⟨cfgRangeMet_iff (F32.not_nan_of_isFinite hlo) (F32.not_nan_of_isFinite hhi), clamp_ne_iff_cfgRangeMet h⟩
  · rw [dlSetDuration_dur, capRangeMet_iff]
    omega
end

section
/-!
SUPPORT. One operation on a named line: what it leaves and what it returns, and that two in a row are one (`40_delayline.md` R120 to
R125, `20_memory.md` R62).
-/

namespace Sys2Proof.Machine

section
variable {s m : State} {g : Stage} {l : LineRef}

/-- An operation on a line executes at its stage, replaces that line, and leaves every other. -/
theorem onLine_completes (h : s.During (LineRef.stage l g)) (f : DelayLine → DelayLine × Result) :
    ∃ t, onLine s g l f = .next t ∧ t = (s.setLine l (t.line l)).returning (f (s.line l)).2 ∧
      t.line l = (f (s.line l)).1 ∧ ∀ k, k ≠ l → t.line k = s.line k := by
  have hline : ((s.setLine l (f (s.line l)).1).returning (f (s.line l)).2).line l = (f (s.line l)).1 := by simp
  refine ⟨_, onLine_eq_next.mpr ⟨admits_iff.mpr h, rfl⟩, by rw [hline], hline, fun k hk => ?_⟩
  rw [State.line_returning, State.line_setLine_ne s hk]

/-- Two operations on one line at one stage, one after the other, are their composition; the first result is lost. -/
theorem onLine_onLine {f : DelayLine → DelayLine × Result} (h : onLine s g l f = .next m) (f' : DelayLine → DelayLine × Result) :
    onLine m g l f' = onLine s g l fun d => f' (f d).1 := by
  obtain ⟨-, rfl⟩ := onLine_eq_next.mp h
  simp [onLine, State.setLine_returning]

end

/-- Everything a read sees after a DL_WRITE (`40_delayline.md` R122, `20_memory.md` R62). -/
theorem memRead_dlWrite {l : DelayLine} (h : l.Wf) (x : F32) (a : Nat) :
    memRead (dlWrite l x).buf a = if a = l.w then x else memRead l.buf a := by
  obtain ⟨-, -, -, -, hmem⟩ := h
  exact memRead_memWrite hmem

/-! ## The meanings of the operations -/

section
variable (s : State) (l : LineRef)

theorem exec_dlNew_noCapacity : exec (.dlNew l 0) s = .refused .noCapacity := rfl

theorem exec_dlNew_madeElsewhere {c : Nat} (hc : 1 ≤ c) (hl : l ≠ .bench) : exec (.dlNew l c) s = .refused .madeElsewhere := by
  cases l with
  | bench => exact absurd rfl hl
  | pre | dl _ | apIn _ | apOut _ | benchApIn | benchApOut => exact if_neg (Nat.ne_of_gt hc)

theorem exec_dlNew_bench {c : Nat} (hc : 1 ≤ c) : exec (.dlNew .bench c) s = onLine s .command .bench fun _ => (dlNew c, .none) :=
  if_neg (Nat.ne_of_gt hc)

theorem exec_dlWrite (x : F32) : exec (.dlWrite l x) s = onLine s .render l fun line => (dlWrite line x, .none) := rfl

theorem exec_dlRead :
    exec (.dlRead l) s = onLine s .render l fun line => ((dlRead line).1, .sample (dlRead line).2) := rfl

theorem exec_dlProcess (x : F32) :
    exec (.dlProcess l x) s = onLine s .render l fun line => ((dlProcess line x).1, .sample (dlProcess line x).2) := rfl

theorem exec_dlProcessBlock (xs : List F32) :
    exec (.dlProcessBlock l xs) s =
      onLine s .render l fun line => ((dlProcessBlock line xs).1, .block (dlProcessBlock line xs).2) := rfl

end

/-! ## The operations made of others -/

section
variable {s m : State} {l : LineRef} {x : F32}

/-- DL_PROCESS is DL_WRITE then DL_READ (`40_delayline.md` R124). -/
theorem exec_dlRead_after_dlWrite (h : exec (.dlWrite l x) s = .next m) : exec (.dlRead l) m = exec (.dlProcess l x) s := by
  rw [exec_dlWrite] at h
  rw [exec_dlRead, onLine_onLine h]
  rfl

/-- DL_PROCESS_BLOCK of no samples returns the empty block and changes nothing else (R125). -/
theorem exec_dlProcessBlock_nil (h : s.During (LineRef.stage l .render)) :
    exec (.dlProcessBlock l []) s = .next (s.returning (.block [])) := by
  rw [exec_dlProcessBlock, onLine_eq_next]
  simp [dlProcessBlock, admits_iff.mpr h]

/-- DL_PROCESS_BLOCK is DL_PROCESS of the first sample, then DL_PROCESS_BLOCK of the rest (R125). -/
theorem exec_dlProcessBlock_cons {xs : List F32} (hm : exec (.dlProcess l x) s = .next m) :
    ∃ t y ys, m.audioOut = .sample y ∧ exec (.dlProcessBlock l xs) m = .next t ∧ t.audioOut = .block ys ∧
      exec (.dlProcessBlock l (x :: xs)) s = .next (t.returning (.block (y :: ys))) := by
  rw [exec_dlProcess] at hm
  rw [exec_dlProcessBlock, exec_dlProcessBlock, onLine_onLine hm]
  obtain ⟨hadmits, rfl⟩ := onLine_eq_next.mp hm
  exact ⟨_, _, _, rfl, accepted_of hadmits _, rfl, accepted_of hadmits _⟩

end

end Sys2Proof.Machine

open Sys2Proof Sys2Proof.Machine

/-- Settles O31: both operations by the rule of an operation on a line, DL_NEW's refusals by its branches. -/
theorem lineCreatedAndTimed : Obligations.LineCreatedAndTimed := by
  unfold Obligations.LineCreatedAndTimed
  refine fun s l => ⟨fun c hc hconf => ?_, fun c hc hl => exec_dlNew_madeElsewhere s l hc hl, exec_dlNew_noCapacity s l,
    fun d hd => onLine_completes hd fun line => (dlSetDuration line d, .none)⟩
  obtain ⟨t, he, ht, hline, hother⟩ := onLine_completes (l := .bench) (g := .command) hconf fun _ => (dlNew c, .none)
  obtain ⟨hcap, hdur, hw, hr, hbuf⟩ := dlNew_registers hc
  refine ⟨t, (exec_dlNew_bench s hc).trans he, ht, ?_⟩
  rw [hline]
  exact ⟨hcap, hw, hdur, hr, hbuf, hother⟩

/-- Settles O32: the halves by the rule of an operation on a line, the whole operations as their parts composed. -/
theorem lineAccess : Obligations.LineAccess := by
  unfold Obligations.LineAccess
  refine ⟨fun s l x hd hwf => ⟨?_, ?_⟩, fun s l hd => ⟨fun x => ?_, exec_dlProcessBlock_nil hd, fun x xs => ?_⟩⟩
  · obtain ⟨t, he, ht, hline, hother⟩ := onLine_completes hd fun line => (dlWrite line x, .none)
    refine ⟨t, he, ht, ?_⟩
    rw [hline]
    exact ⟨rfl, memRead_dlWrite hwf x, dlWrite_wf x hwf, hother⟩
  · obtain ⟨t, he, ht, hline, hother⟩ := onLine_completes hd fun line => ((dlRead line).1, .sample (dlRead line).2)
    rw [hline] at ht
    exact ⟨t, he, ht, hother⟩
  · obtain ⟨m, hm⟩ : ∃ m, exec (.dlWrite l x) s = .next m := ⟨_, accepted_of (admits_iff.mpr hd) _⟩
    obtain ⟨t, ht⟩ : ∃ t, exec (.dlProcess l x) s = .next t := ⟨_, accepted_of (admits_iff.mpr hd) _⟩
    exact ⟨m, t, hm, (exec_dlRead_after_dlWrite hm).trans ht, ht⟩
  · obtain ⟨m, hm⟩ : ∃ m, exec (.dlProcess l x) s = .next m := ⟨_, accepted_of (admits_iff.mpr hd) _⟩
    obtain ⟨t, y, ys, hsample, hrest, hblock, hcons⟩ := exec_dlProcessBlock_cons hm
    exact ⟨m, t, y, ys, hm, hsample, hrest, hblock, hcons⟩
end

section
/-!
SUPPORT. The words of a line that lags: which index is how far behind the write index, that the words written last are the inputs given
last, and so the delay law (`40_delayline.md` R126 to R128).
-/

namespace Sys2Proof.Machine

/-! ## Indices behind the write index -/

section
variable {w cap : Nat}

theorem lagged_by_zero (hw : w < cap) : lagged w cap 0 = w := by
  rw [lagged, Nat.sub_zero, Nat.add_mod_right, Nat.mod_eq_of_lt hw]

/-- The read index of the longest duration is one ahead of the write index. -/
theorem lagged_longest (hc : 1 ≤ cap) : lagged w cap (cap - 1) = advance w cap := by
  rw [lagged, advance, show w + cap - (cap - 1) = w + 1 by omega]

/-- What was `k` behind is one more behind after the write index has moved on. -/
theorem lagged_advance_succ {k : Nat} (hk : k < cap) : lagged (advance w cap) cap (k + 1) = lagged w cap k := by
  rw [lagged, advance, Nat.add_sub_assoc hk, Nat.mod_add_mod, lagged]
  congr 1
  omega

/-- Fewer than `cap` behind is another index. -/
theorem lagged_ne {k : Nat} (hw : w < cap) (hpos : 1 ≤ k) (hk : k < cap) : lagged w cap k ≠ w := by
  rw [lagged]
  rcases Nat.lt_or_ge w k with hlt | hge
  · rw [Nat.mod_eq_of_lt (by omega)]
    omega
  · rw [show w + cap - k = (w - k) + cap by omega, Nat.add_mod_right, Nat.mod_eq_of_lt (by omega)]
    omega

theorem advance_ne (hw : w < cap) (hc : 2 ≤ cap) : advance w cap ≠ w := by
  rw [← lagged_longest (by omega)]
  exact lagged_ne hw (by omega) (by omega)

end

/-! ## Between the halves of a pair, and at duration 0 -/

section
variable {l : DelayLine} (x : F32)

/-- A write alone breaks `LAG` (`40_delayline.md` R126). -/
theorem dlWrite_not_lag (h : l.Wf) (hl : l.Lag) (hc : 2 ≤ l.cap) : ¬ (dlWrite l x).Lag := by
  obtain ⟨hcap, hdur, -, hr, -⟩ := h
  intro (hlag : l.r = lagged (advance l.w l.cap) l.cap l.dur)
  rw [lagged_advance hcap hdur, ← hl] at hlag
  exact advance_ne hr hc hlag.symm

/-- A read alone breaks `LAG`. -/
theorem dlRead_not_lag (h : l.Wf) (hl : l.Lag) (hc : 2 ≤ l.cap) : ¬ (dlRead l).1.Lag := by
  obtain ⟨-, -, -, hr, -⟩ := h
  exact fun hlag => advance_ne hr hc (hlag.trans hl.symm)

theorem DelayLine.r_eq_w_of_lag (h : l.Wf) (hl : l.Lag) (hdur : l.dur = 0) : l.r = l.w := by
  obtain ⟨-, -, hw, -⟩ := h
  rw [hl, hdur, lagged_by_zero hw]

theorem memRead_dlProcess_written (h : l.Wf) : memRead (dlProcess l x).1.buf l.w = x :=
  (memRead_dlWrite h x l.w).trans (if_pos rfl)

end

/-! ## What a line remembers -/

/-- The word `j + 1` behind the write index is the input given `j` calls before the last; `hist` lists the inputs, the last first, and
before the first input every word is `+0`. -/
def DelayLine.Remembers (l : DelayLine) (hist : List F32) : Prop :=
  ∀ j < l.cap, memRead l.buf (lagged l.w l.cap (j + 1)) = hist.getD j F32.zero

/-- A line in range that lags and remembers its inputs: what a run through DL_PROCESS keeps. -/
structure DelayLine.Delays (l : DelayLine) (hist : List F32) : Prop where
  wf : l.Wf
  lag : l.Lag
  remembers : l.Remembers hist

section
variable {l : DelayLine} {hist : List F32}

theorem dlNew_delays {c : Nat} (hc : 1 ≤ c) : (dlNew c).Delays [] :=
  ⟨dlNew_wf hc, dlNew_lag c, fun _ _ => rfl⟩

theorem dlSetDuration_delays (h : l.Delays hist) (d : Nat) : (dlSetDuration l d).Delays hist :=
  ⟨dlSetDuration_wf d h.wf, dlSetDuration_lag l d, h.remembers⟩

/-- A write puts its input in front of the history: the new word is one behind, every other one more behind than it was. -/
theorem dlWrite_remembers (hwf : l.Wf) (h : l.Remembers hist) (x : F32) : (dlWrite l x).Remembers (x :: hist) := by
  intro j (hj : j < l.cap)
  show memRead (dlWrite l x).buf (lagged (advance l.w l.cap) l.cap (j + 1)) = _
  rw [lagged_advance_succ hj, memRead_dlWrite hwf]
  obtain ⟨-, -, hw, -⟩ := hwf
  cases j with
  | zero => rw [if_pos (lagged_by_zero hw), List.getD_cons_zero]
  | succ j => rw [if_neg (lagged_ne hw (by omega) hj), h j (by omega), List.getD_cons_succ]

theorem dlProcess_delays (h : l.Delays hist) (x : F32) : (dlProcess l x).1.Delays (x :: hist) :=
  ⟨dlProcess_wf x h.wf, dlProcess_lag x h.wf h.lag, dlWrite_remembers h.wf h.remembers x⟩

/-- DL_PROCESS returns the input given `dur` calls ago. -/
theorem dlProcess_returns (h : l.Delays hist) (x : F32) : (dlProcess l x).2 = (x :: hist).getD l.dur F32.zero := by
  obtain ⟨hcap, hdur, -⟩ := h.wf
  have hlt : l.dur < l.cap := by omega
  have hr : l.r = lagged (advance l.w l.cap) l.cap (l.dur + 1) := h.lag.trans (lagged_advance_succ hlt).symm
  show memRead (dlWrite l x).buf l.r = _
  rw [hr]
  exact dlWrite_remembers h.wf h.remembers x l.dur hlt

/-- A run puts its inputs in front of the history. -/
theorem lineAfter_delays (ops : List LineOp) (h : l.Delays hist) : (lineAfter l ops).Delays ((lineInputs ops).reverse ++ hist) := by
  induction ops generalizing l hist with
  | nil => exact h
  | cons op rest ih =>
    cases op with
    | setDuration d => exact ih (dlSetDuration_delays h d)
    | process x =>
      rw [lineInputs, List.reverse_cons, List.append_assoc]
      exact ih (dlProcess_delays h x)

end

/-- Counting from the last of the inputs, and from the first. -/
theorem getD_last_first (xs : List F32) (x : F32) (d : Nat) :
    (x :: xs.reverse).getD d F32.zero = if d ≤ xs.length then (xs ++ [x]).getD (xs.length - d) F32.zero else F32.zero := by
  rw [← List.reverse_concat]
  split
  · rw [List.getD_eq_getElem?_getD, List.getElem?_reverse (by simp; omega), List.getD_eq_getElem?_getD]
    simp
  · rw [List.getD_eq_default _ _ (by simp; omega)]

end Sys2Proof.Machine

open Sys2Proof Sys2Proof.Machine

/-- Settles O34: where `LAG` holds by the rules of the operations, where it does not since an index that moves on is another. -/
theorem lagAndTransparency : Obligations.LagAndTransparency := by
  unfold Obligations.LagAndTransparency
  refine ⟨fun c _ => dlNew_lag c, dlSetDuration_lag, fun l x h hl => ⟨dlProcess_lag x h hl, dlReadWrite_lag x h hl,
    fun hc => ⟨dlWrite_not_lag x h hl hc, dlRead_not_lag h hl hc⟩, fun hdur => ?_⟩⟩
  have hrw : l.r = l.w := DelayLine.r_eq_w_of_lag h hl hdur
  have hword : memRead (dlProcess l x).1.buf l.w = x := memRead_dlProcess_written x h
  refine ⟨hrw, ?_, hword, rfl, rfl⟩
  show memRead (dlProcess l x).1.buf l.r = x
  rwa [hrw]

/-- Settles O35: by induction over the run a line remembers its inputs, so DL_PROCESS returns the one `dur` calls ago. -/
theorem delayLaw : Obligations.DelayLaw := by
  unfold Obligations.DelayLaw
  intro c ops x hc
  have h : (lineAfter (dlNew c) ops).Delays (lineInputs ops).reverse := by
    simpa using lineAfter_delays ops (dlNew_delays hc)
  exact (dlProcess_returns h x).trans (getD_last_first _ x _)
end

section
/-!
SUPPORT. `clamp` at the ends of its range, and the frequency and the Q of a biquad setter by their ranges (`00_scope.md` R13,
`41_biquad.md` R140).
-/

namespace Sys2Proof

namespace F32

theorem le_of_lt {a b : F32} (h : lt a b = true) : le a b = true := by
  rw [lt, Bool.and_eq_true] at h
  exact h.1

theorem lt_false_iff {a b : F32} : lt a b = false ↔ (le a b = true → le b a = true) := by
  cases h : le a b <;> simp [lt, h]

theorem feq_false_of_lt {a b : F32} (h : lt a b = true) : a.feq b = false ∧ b.feq a = false := by
  rw [lt, Bool.and_eq_true, Bool.not_eq_true'] at h
  simp [feq, h.2]

/-- What equals `b` does not equal what lies above `b`. -/
theorem feq_false_of_feq_lt {a b c : F32} (h : a.feq b = true) (hbc : lt b c = true) : a.feq c = false := by
  rw [feq, Bool.and_eq_true] at h
  rw [lt, Bool.and_eq_true, Bool.not_eq_true', ← Bool.not_eq_true] at hbc
  rw [feq, Bool.and_eq_false_iff, ← Bool.not_eq_true, ← Bool.not_eq_true]
  exact .inr fun hca => hbc.2 (le_trans hca h.1)

/-- `clamp` sends what does not lie above its lower bound, NaN included, to a value equal to it. -/
theorem clamp_feq_lo {v lo hi : F32} (h : le lo hi = true) (hv : lt lo v = false) : (v.clamp lo hi).feq lo = true := by
  rw [feq, Bool.and_eq_true]
  refine ⟨?_, (clamp_range h).1⟩
  cases hlo : le lo v with
  | false =>
    rw [clamp_of_not_ge hlo]
    exact le_refl_of lo (not_nan_of_le h).1
  | true =>
    have hvlo : le v lo = true := lt_false_iff.mp hv hlo
    rwa [clamp_of_within hlo (le_trans hvlo h)]

/-- `clamp` sends what does not lie below its upper bound to a value equal to it. -/
theorem clamp_feq_hi {v lo hi : F32} (h : le lo hi = true) (hv : le hi v = true) : (v.clamp lo hi).feq hi = true := by
  rw [feq, Bool.and_eq_true]
  refine ⟨(clamp_range h).2, ?_⟩
  cases hhi : lt hi v with
  | false => rwa [clamp_of_within (le_trans h hv) (lt_false_iff.mp hhi hv)]
  | true =>
    rw [clamp_of_above h hhi]
    exact le_refl_of hi (not_nan_of_le h).2

/-- `clamp` keeps a value above its lower bound there. -/
theorem lt_clamp {v lo hi : F32} (h : lt lo hi = true) (hv : lt lo v = true) : lt lo (v.clamp lo hi) = true := by
  unfold clamp
  split
  · rename_i hlo
    simp [le_of_lt hv] at hlo
  · split
    · exact h
    · exact hv

end F32

theorem Parameters.Legal.qMax_pos {k : Parameters} (h : k.Legal) : F32.lt F32.zero k.qMax = true := by
  obtain ⟨-, -, -, -, -, -, -, -, -, -, -, -, -, -, -, -, -, -, -, -, hqMin, hqLe, -⟩ := h
  exact F32.lt_of_lt_le hqMin hqLe

namespace Machine

section
variable {nf : F32}

theorem bqFrequency_above (h : F32.le Config.one nf = true) : (bqFrequency nf).feq Config.one = true :=
  F32.clamp_feq_hi (by decide) h

theorem bqFrequency_below (h : F32.lt F32.zero nf = false) :
    (bqFrequency nf).feq F32.zero = true ∧ (bqFrequency nf).feq Config.one = false := by
  have hzero : (bqFrequency nf).feq F32.zero = true := F32.clamp_feq_lo (by decide) h
  exact ⟨hzero, F32.feq_false_of_feq_lt hzero (by decide)⟩

theorem bqFrequency_inside (h0 : F32.lt F32.zero nf = true) (h1 : F32.lt nf Config.one = true) : bqFrequency nf = nf :=
  F32.clamp_of_within (F32.le_of_lt h0) (F32.le_of_lt h1)

end

/-! ## The cases of a setter -/

/-- The cases of a setter by its clamped frequency: at 1, at 0, and inside the band. -/
def bandCases (nf : F32) (top bottom : Biquad) (inside : F32 → Biquad) : Biquad :=
  if (bqFrequency nf).feq Config.one then top
  else if (bqFrequency nf).feq F32.zero then bottom
  else inside (bqFrequency nf)

/-- The cases of a setter that special-cases a Q of 0, by its clamped Q. -/
def qCases (k : Parameters) (q : F32) (atZero : Biquad) (positive : F32 → Biquad) : Biquad :=
  if (q.clamp F32.zero k.qMax).feq F32.zero then atZero else positive (q.clamp F32.zero k.qMax)

section
variable {nf : F32} {top bottom : Biquad} {inside : F32 → Biquad}

theorem bandCases_above (h : F32.le Config.one nf = true) : bandCases nf top bottom inside = top := if_pos (bqFrequency_above h)

theorem bandCases_below (h : F32.lt F32.zero nf = false) : bandCases nf top bottom inside = bottom := by
  obtain ⟨hzero, hone⟩ := bqFrequency_below h
  simp [bandCases, hzero, hone]

theorem bandCases_inside (h0 : F32.lt F32.zero nf = true) (h1 : F32.lt nf Config.one = true) :
    bandCases nf top bottom inside = inside nf := by
  simp [bandCases, bqFrequency_inside h0 h1, F32.feq_false_of_lt h0, F32.feq_false_of_lt h1]

/-- One filter at both ends of the band: the order of the two tests does not matter. -/
theorem bandCases_ends (nf : F32) (ends : Biquad) (inside : F32 → Biquad) :
    (if (bqFrequency nf).feq F32.zero || (bqFrequency nf).feq Config.one then ends else inside (bqFrequency nf)) =
      bandCases nf ends ends inside := by
  unfold bandCases
  cases (bqFrequency nf).feq F32.zero <;> cases (bqFrequency nf).feq Config.one <;> rfl

theorem bandCases_history {b : Biquad} (htop : top.history = b.history) (hbottom : bottom.history = b.history)
    (hinside : ∀ f, (inside f).history = b.history) : (bandCases nf top bottom inside).history = b.history := by
  unfold bandCases
  split
  · exact htop
  · split
    · exact hbottom
    · exact hinside _

end

section
variable {k : Parameters} {q : F32} {atZero : Biquad} {positive : F32 → Biquad}

theorem qCases_atZero (hk : k.Legal) (h : F32.lt F32.zero q = false) : qCases k q atZero positive = atZero :=
  if_pos (F32.clamp_feq_lo (F32.le_of_lt hk.qMax_pos) h)

theorem qCases_positive (hk : k.Legal) (h : F32.lt F32.zero q = true) :
    qCases k q atZero positive = positive (q.clamp F32.zero k.qMax) := by
  have hpos : F32.lt F32.zero (q.clamp F32.zero k.qMax) = true := F32.lt_clamp hk.qMax_pos h
  simp [qCases, F32.feq_false_of_lt hpos]

theorem qCases_history {b : Biquad} (hzero : atZero.history = b.history) (hpositive : ∀ v, (positive v).history = b.history) :
    (qCases k q atZero positive).history = b.history := by
  unfold qCases
  split
  · exact hzero
  · exact hpositive _

end

/-! ## The eight setters by their cases (R144 to R151) -/

section
variable (k : Parameters) (b : Biquad) (nf q gainDb : F32)

theorem bqSetLowpass_eq :
    bqSetLowpass k b nf q = bandCases nf (bqConst b Config.one) (bqConst b F32.zero) fun f =>
      bqFinish b (bqCos k.num f) (bqAlpha k.num f (q.clamp k.qMin k.qMax)) ((Config.one.sub (bqCos k.num f)).div Config.two)
        (Config.one.sub (bqCos k.num f)) ((Config.one.sub (bqCos k.num f)).div Config.two) := rfl

theorem bqSetHighpass_eq :
    bqSetHighpass k b nf q = bandCases nf (bqConst b F32.zero) (bqConst b Config.one) fun f =>
      bqFinish b (bqCos k.num f) (bqAlpha k.num f (q.clamp k.qMin k.qMax)) ((Config.one.add (bqCos k.num f)).div Config.two)
        (Config.one.add (bqCos k.num f)).negate ((Config.one.add (bqCos k.num f)).div Config.two) := rfl

theorem bqSetBandpass_eq :
    bqSetBandpass k b nf q = bandCases nf (bqConst b F32.zero) (bqConst b F32.zero) fun f =>
      qCases k q (bqConst b Config.one) fun v =>
        bqFinish b (bqCos k.num f) (bqAlpha k.num f v) (bqAlpha k.num f v) F32.zero (bqAlpha k.num f v).negate := by
  rw [← bandCases_ends]; rfl

theorem bqSetLowshelf_eq :
    bqSetLowshelf k b nf gainDb =
      (let a := bqGain k gainDb
       bandCases nf (bqConst b (a.mul a)) (bqConst b Config.one) fun f =>
         let cs := bqCos k.num f
         let sq := (Config.two.mul a.sqrt).mul (bqShelfAlpha k.num f)
         let ap := a.add Config.one
         let am := a.sub Config.one
         bqNormalize b (a.mul ((ap.sub (am.mul cs)).add sq)) ((Config.two.mul a).mul (am.sub (ap.mul cs)))
           (a.mul ((ap.sub (am.mul cs)).sub sq)) ((ap.add (am.mul cs)).add sq) (Config.minusTwo.mul (am.add (ap.mul cs)))
           ((ap.add (am.mul cs)).sub sq)) := rfl

theorem bqSetHighshelf_eq :
    bqSetHighshelf k b nf gainDb =
      (let a := bqGain k gainDb
       bandCases nf (bqConst b Config.one) (bqConst b (a.mul a)) fun f =>
         let cs := bqCos k.num f
         let sq := (Config.two.mul a.sqrt).mul (bqShelfAlpha k.num f)
         let ap := a.add Config.one
         let am := a.sub Config.one
         bqNormalize b (a.mul ((ap.add (am.mul cs)).add sq)) ((Config.minusTwo.mul a).mul (am.add (ap.mul cs)))
           (a.mul ((ap.add (am.mul cs)).sub sq)) ((ap.sub (am.mul cs)).add sq) (Config.two.mul (am.sub (ap.mul cs)))
           ((ap.sub (am.mul cs)).sub sq)) := rfl

theorem bqSetPeaking_eq :
    bqSetPeaking k b nf q gainDb =
      (let a := bqGain k gainDb
       bandCases nf (bqConst b Config.one) (bqConst b Config.one) fun f =>
         qCases k q (bqConst b (a.mul a)) fun v =>
           let alpha := bqAlpha k.num f v
           let a1 := Config.minusTwo.mul (bqCos k.num f)
           bqNormalize b (Config.one.add (alpha.mul a)) a1 (Config.one.sub (alpha.mul a)) (Config.one.add (alpha.div a)) a1
             (Config.one.sub (alpha.div a))) := by
  rw [← bandCases_ends]; rfl

theorem bqSetAllpass_eq :
    bqSetAllpass k b nf q = bandCases nf (bqConst b Config.one) (bqConst b Config.one) fun f =>
      qCases k q (bqConst b Config.minusOne) fun v =>
        let alpha := bqAlpha k.num f v
        bqFinish b (bqCos k.num f) alpha (Config.one.sub alpha) (Config.minusTwo.mul (bqCos k.num f)) (Config.one.add alpha) := by
  rw [← bandCases_ends]; rfl

theorem bqSetNotch_eq :
    bqSetNotch k b nf q = bandCases nf (bqConst b Config.one) (bqConst b Config.one) fun f =>
      qCases k q (bqConst b F32.zero) fun v =>
        bqFinish b (bqCos k.num f) (bqAlpha k.num f v) Config.one (Config.minusTwo.mul (bqCos k.num f)) Config.one := by
  rw [← bandCases_ends]; rfl

/-! The other seven keep the history as `bqSetLowpass_history` says (R154). -/

theorem bqSetHighpass_history : (bqSetHighpass k b nf q).history = b.history := by
  rw [bqSetHighpass_eq]; exact bandCases_history rfl rfl fun _ => rfl

theorem bqSetBandpass_history : (bqSetBandpass k b nf q).history = b.history := by
  rw [bqSetBandpass_eq]; exact bandCases_history rfl rfl fun _ => qCases_history rfl fun _ => rfl

theorem bqSetLowshelf_history : (bqSetLowshelf k b nf gainDb).history = b.history := by
  rw [bqSetLowshelf_eq]; exact bandCases_history rfl rfl fun _ => rfl

theorem bqSetHighshelf_history : (bqSetHighshelf k b nf gainDb).history = b.history := by
  rw [bqSetHighshelf_eq]; exact bandCases_history rfl rfl fun _ => rfl

theorem bqSetPeaking_history : (bqSetPeaking k b nf q gainDb).history = b.history := by
  rw [bqSetPeaking_eq]; exact bandCases_history rfl rfl fun _ => qCases_history rfl fun _ => rfl

theorem bqSetAllpass_history : (bqSetAllpass k b nf q).history = b.history := by
  rw [bqSetAllpass_eq]; exact bandCases_history rfl rfl fun _ => qCases_history rfl fun _ => rfl

theorem bqSetNotch_history : (bqSetNotch k b nf q).history = b.history := by
  rw [bqSetNotch_eq]; exact bandCases_history rfl rfl fun _ => qCases_history rfl fun _ => rfl

end

end Machine

end Sys2Proof

open Sys2Proof Sys2Proof.Machine

/-- Settles O36: each clause is one case of the setter's frequency, and then of its Q. -/
theorem biquadBoundaries : Obligations.BiquadBoundaries := by
  unfold Obligations.BiquadBoundaries
  intro k b nf q gainDb hk gain a one
  rw [bqSetLowpass_eq, bqSetHighpass_eq, bqSetBandpass_eq, bqSetLowshelf_eq, bqSetHighshelf_eq, bqSetPeaking_eq, bqSetAllpass_eq,
    bqSetNotch_eq]
  refine ⟨fun h => ?_, fun h => ?_, fun h0 h1 hq => ?_⟩
  · simp only [bandCases_above h]
    exact ⟨rfl, rfl, rfl, rfl, rfl, rfl, rfl, rfl⟩
  · simp only [bandCases_below h]
    exact ⟨rfl, rfl, rfl, rfl, rfl, rfl, rfl, rfl⟩
  · simp only [bandCases_inside h0 h1, qCases_atZero hk hq]
    exact ⟨rfl, rfl, rfl, rfl⟩

/-- Settles O37: inside the band, and with a positive Q where the setter tests it, each setter is its last case. -/
theorem biquadFormulas : Obligations.BiquadFormulas := by
  unfold Obligations.BiquadFormulas
  refine fun k b nf q gainDb hk h0 h1 => ⟨⟨?_, ?_⟩, fun hq => ⟨?_, ?_, ?_, ?_⟩, ?_, ?_⟩
  · rw [bqSetLowpass_eq, bandCases_inside h0 h1]; rfl
  · rw [bqSetHighpass_eq, bandCases_inside h0 h1]; rfl
  · rw [bqSetBandpass_eq, bandCases_inside h0 h1, qCases_positive hk hq]; rfl
  · rw [bqSetPeaking_eq, bandCases_inside h0 h1, qCases_positive hk hq]; rfl
  · rw [bqSetAllpass_eq, bandCases_inside h0 h1, qCases_positive hk hq]; rfl
  · rw [bqSetNotch_eq, bandCases_inside h0 h1, qCases_positive hk hq]; rfl
  · rw [bqSetLowshelf_eq, bandCases_inside h0 h1]; rfl
  · rw [bqSetHighshelf_eq, bandCases_inside h0 h1]; rfl
end

section
/-!
SUPPORT. One operation on a named Biquad, at its stage: what it leaves, and where it stops; the eight setters keep the history
(`41_biquad.md` R154; logs 19, 20).
-/

namespace Sys2Proof.Machine

section
variable {s : State} {g : Stage} {r : FilterRef} {b : Biquad}

theorem onBiquad_of_some (h : s.During (FilterRef.stage r g)) (hb : s.biquad r = some b) (f : Biquad → Biquad × Result) :
    onBiquad s g r f = .next ((s.setBiquad r (f b).1).returning (f b).2) :=
  onBiquad_eq_next.mpr ⟨admits_iff.mpr h, b, hb, rfl⟩

theorem onBiquad_of_none (h : s.During (FilterRef.stage r g)) (hb : s.biquad r = none) (f : Biquad → Biquad × Result) :
    onBiquad s g r f = .refused .absentFilter := by
  simp [onBiquad, hb, admits_iff.mpr h]

theorem exec_bqNew_madeElsewhere (hr : r ≠ .bench) : exec (.bqNew r) s = .refused .madeElsewhere := by
  cases r with
  | bench => exact absurd rfl hr
  | damp _ => rfl

end

/-! ## The setters -/

/-- An operation, and what it makes of a Biquad: a setting of the Biquad `r` that keeps its history. -/
def SetsCoefficients (s : State) (r : FilterRef) (e : Instr × (Biquad → Biquad)) : Prop :=
  exec e.1 s = onBiquad s .drain r (fun b => (e.2 b, .none)) ∧ ∀ b, (e.2 b).history = b.history

end Sys2Proof.Machine

open Sys2Proof Sys2Proof.Machine

/-- Settles O38: the eight setters are one operation on a Biquad, with eight functions that keep the history. -/
theorem biquadSettersKeepHistory : Obligations.BiquadSettersKeepHistory := by
  unfold Obligations.BiquadSettersKeepHistory
  intro s r nf q gainDb hd e he
  obtain ⟨hexec, hhistory⟩ : SetsCoefficients s r e := by
    revert e
    simp only [List.forall_mem_cons, List.not_mem_nil, false_imp_iff, implies_true, and_true]
    exact ⟨⟨rfl, fun b => bqSetLowpass_history s.par b nf q⟩, ⟨rfl, fun b => bqSetHighpass_history s.par b nf q⟩,
      ⟨rfl, fun b => bqSetBandpass_history s.par b nf q⟩, ⟨rfl, fun b => bqSetLowshelf_history s.par b nf gainDb⟩,
      ⟨rfl, fun b => bqSetHighshelf_history s.par b nf gainDb⟩, ⟨rfl, fun b => bqSetPeaking_history s.par b nf q gainDb⟩,
      ⟨rfl, fun b => bqSetAllpass_history s.par b nf q⟩, ⟨rfl, fun b => bqSetNotch_history s.par b nf q⟩⟩
  rw [hexec]
  refine ⟨fun b hb => ⟨onBiquad_of_some hd hb _, ?_⟩, fun hb => onBiquad_of_none hd hb _⟩
  obtain ⟨hx1, hx2, hy1, hy2⟩ : (e.2 b).x1 = b.x1 ∧ (e.2 b).x2 = b.x2 ∧ (e.2 b).y1 = b.y1 ∧ (e.2 b).y2 = b.y2 := by
    simpa [Biquad.history] using hhistory b
  exact ⟨hx1, hx2, hy1, hy2, fun _ hg => State.biquad_setBiquad_ne s hg _⟩

/-- Settles O39: BQ_NEW by its branches, BQ_PROCESS by the rule of an operation on a Biquad. -/
theorem biquadProcessing : Obligations.BiquadProcessing := by
  unfold Obligations.BiquadProcessing
  exact fun s f x => ⟨fun hc => execBqNew_eq_next.mpr ⟨rfl, admits_iff.mpr hc, rfl⟩, exec_bqNew_madeElsewhere,
    fun hd => ⟨fun b hb => onBiquad_of_some hd hb _, fun hb => onBiquad_of_none hd hb _⟩⟩
end

section
/-!
SUPPORT. The argument of the exponential in OP_SET_FREQUENCY (`42_onepole.md` R171) by the codes of its parts, and the range of what
is 1 less a value of `[0, 1]`.
-/

namespace Sys2Proof

namespace F32

/-! ## Nearest codes -/

/-- A magnitude is nearest to itself. -/
theorem nearest_codeUnits (c : Nat) : Nearest c (codeUnits c) := by
  have h := roundCode_nearest (codeUnits c) one_pos
  rw [Nat.cast_one, div_one] at h
  have hc := h.eq_of_codeUnits
  rwa [hc] at h

/-- A quotient that is at most a magnitude is not rounded past it. -/
theorem roundCode_le {num den c : Nat} (hd : 0 < den) (h : num ≤ codeUnits c * den) : roundCode num den ≤ c := by
  refine (roundCode_nearest num hd).mono (nearest_codeUnits c) ?_
  rw [div_le_iff₀ (Nat.cast_pos.mpr hd)]
  exact_mod_cast h

/-- Rounding raises a number of at least `2^23` units by at most `2^-24` of it. -/
theorem Nearest.codeUnits_le {c : Nat} {x y : ℝ} (h : Nearest c x) (hxy : x ≤ y) (hy : 8388608 ≤ y) :
    (codeUnits c : ℝ) ≤ y + y / 16777216 := by
  rcases Nat.lt_or_ge 8388608 c with hlt | hge
  · obtain ⟨b, rfl⟩ : ∃ b, b + 1 = c := ⟨c - 1, by omega⟩
    have hlow := h.lower_le b rfl
    have hgap : (codeUnits (b + 1) : ℝ) = codeUnits b + 2 ^ (b / 8388608 - 1) := by rw [codeUnits_succ]; push_cast; rfl
    have hbig : (8388608 * 2 ^ (b / 8388608 - 1) : ℝ) ≤ codeUnits b := by
      rw [codeUnits, if_neg (by omega)]
      push_cast
      gcongr
      linarith [(b % 8388608).cast_nonneg (α := ℝ)]
    linarith
  · have hc : (codeUnits c : ℝ) ≤ codeUnits (0 * 8388608 + 8388608) := codeUnits_cast_le (by omega)
    rw [codeUnits_spacing (by decide) (.inl rfl), pow_zero, mul_one, Nat.cast_ofNat] at hc
    linarith [show (0 : ℝ) ≤ y / 16777216 by positivity]

/-- One exponent up is twice the magnitude. -/
theorem codeUnits_add_exponent {c : Nat} (h : 8388608 ≤ c) : codeUnits (c + 8388608) = 2 * codeUnits c := by
  obtain ⟨q, hq⟩ : ∃ q, c / 8388608 = q + 1 := ⟨c / 8388608 - 1, by omega⟩
  rw [codeUnits, codeUnits, if_neg (by omega), if_neg (by omega), Nat.add_mod_right, Nat.add_div_right _ (by omega), hq,
    Nat.add_sub_cancel, Nat.add_sub_cancel, pow_succ]
  ring

/-! ## Zeros and signs -/

theorem exists_zeroOf_of_feq_zero {a : F32} (h : a.feq F32.zero = true) : ∃ neg, a = zeroOf neg := by
  rw [feq, Bool.and_eq_true] at h
  have hf : a.isFinite = true := isFinite_of_within rfl rfl h.2 h.1
  obtain ⟨neg, c, hc, rfl⟩ := exists_code_of_isFinite hf
  rw [le_finite_iff hf rfl, le_finite_iff rfl hf, zero_scaled, ofCode_scaled hc] at h
  have h0 : (codeUnits c : Int) = 0 := by cases neg <;> simp at h <;> omega
  obtain rfl : c = 0 := codeUnits_strictMono.injective (by exact_mod_cast h0)
  exact ⟨neg, rfl⟩

theorem zeroOf_div_ofCode (neg : Bool) {d : Nat} (hd : d < 255 * 8388608) (h0 : 0 < d) :
    (zeroOf neg).div (ofCode false d) = zeroOf neg := by
  have hpos : 0 < codeUnits d := codeUnits_strictMono h0
  have hm : magnitude 0 0 = 0 := rfl
  have hcode : roundCode 0 (codeUnits d) = 0 := Nat.le_zero.mp (roundCode_le hpos (Nat.zero_le _))
  rw [ofCode, dif_pos hd, zeroOf, div_finite, ofCode_magnitude hd, if_neg hpos.ne', hm, zero_mul, roundQuot_eq_ofCode, hcode,
    Bool.bne_false]
  rfl

theorem zero_le_ofCode (c : Nat) : le F32.zero (ofCode false c) = true :=
  show le (ofCode false 0) _ = true from ofCode_le_ofCode (Nat.zero_le c)

theorem zero_lt_ofCode {c : Nat} (h0 : 0 < c) (h : c < 255 * 8388608) : lt F32.zero (ofCode false c) = true := by
  rw [lt_finite_iff rfl (ofCode_isFinite h), zero_scaled, ofCode_scaled h]
  simpa using codeUnits_strictMono h0

/-- The negative of a value of code up to `c` lies between the negative of that of `c` and zero. -/
theorem negate_ofCode_range {a c : Nat} (h : a ≤ c) (hc : c < 255 * 8388608) :
    le (ofCode false c).negate (ofCode false a).negate = true ∧ le (ofCode false a).negate F32.zero = true := by
  have ha : a < 255 * 8388608 := by omega
  have hfa : (ofCode false a).negate.isFinite = true := by rw [negate_isFinite, ofCode_isFinite ha]
  have hfc : (ofCode false c).negate.isFinite = true := by rw [negate_isFinite, ofCode_isFinite hc]
  rw [le_finite_iff hfc hfa, le_finite_iff hfa rfl, negate_scaled, negate_scaled, ofCode_scaled ha, ofCode_scaled hc]
  simpa using codeUnits_strictMono.monotone h

/-! ## 1 less a value of `[0, 1]` -/

theorem one_eq_ofCode : Config.one = ofCode false 0x3F800000 := by decide

theorem one_scaled : Config.one.scaled = 2 ^ 149 := by decide

theorem codeUnits_one : codeUnits 0x3F800000 = 2 ^ 149 := by decide

theorem one_sub_range {b : F32} (h0 : le F32.zero b = true) (h1 : le b Config.one = true) :
    Machine.Within (Config.one.sub b) F32.zero Config.one := by
  have hb : b.isFinite = true := isFinite_of_within rfl rfl h0 h1
  rw [le_finite_iff rfl hb, zero_scaled] at h0
  rw [le_finite_iff hb rfl, one_scaled] at h1
  rw [sub, add_finite rfl (by rw [negate_isFinite, hb]), negate_scaled, one_scaled, show Config.one.sign = false by decide,
    Bool.false_and]
  split
  · exact ⟨by decide, by decide⟩
  · have hcode : roundCode (2 ^ 149 + -b.scaled).natAbs 1 ≤ 0x3F800000 :=
      roundCode_le one_pos (by rw [codeUnits_one]; omega)
    rw [decide_eq_false (show ¬ 2 ^ 149 + -b.scaled < 0 by omega), roundQuot_eq_ofCode, one_eq_ofCode]
    exact ⟨zero_le_ofCode _, ofCode_le_ofCode hcode⟩

end F32

namespace Machine

/-! ## The argument of the exponential -/

theorem twoPi_eq_ofCode : Config.twoPi = F32.ofCode false 0x40C90FDB := by decide

theorem codeUnits_twoPi : F32.codeUnits 0x40C90FDB = 13176795 * 2 ^ 128 :=
  F32.codeUnits_spacing (s := 128) (m := 13176795) (by decide) (.inr (by decide))

/-- `3.1415930`, the binary32 value after `PI`. -/
theorem codeUnits_pi_succ : F32.codeUnits 0x40490FDC = 13176796 * 2 ^ 127 :=
  F32.codeUnits_spacing (s := 127) (m := 13176796) (by decide) (.inr (by decide))

theorem codeUnits_maxRate : F32.codeUnits 0x483B8000 = 12288000 * 2 ^ 143 :=
  F32.codeUnits_spacing (s := 143) (m := 12288000) (by decide) (.inr (by decide))

/-- The code of a sample rate from 1.0 to 192000.0. -/
abbrev RateCode (k : Nat) : Prop := 0x3F800000 ≤ k ∧ k ≤ 0x483B8000

theorem exists_rateCode {fs : F32} (h1 : F32.le (F32.ofBits 0x3F800000#32) fs = true)
    (h2 : F32.le fs (F32.ofBits 0x483B8000#32) = true) : ∃ k, RateCode k ∧ fs = F32.ofCode false k := by
  have hpos : F32.lt F32.zero fs = true := F32.lt_of_lt_le (by decide) h1
  obtain ⟨k, -, hk, rfl⟩ := F32.exists_code_of_pos (F32.isFinite_of_pos_of_le hpos h2 rfl) hpos
  rw [show F32.ofBits 0x3F800000#32 = F32.ofCode false 0x3F800000 by decide] at h1
  rw [show F32.ofBits 0x483B8000#32 = F32.ofCode false 0x483B8000 by decide] at h2
  exact ⟨k, ⟨F32.code_le_of_le (by decide) hk h1, F32.code_le_of_le hk (by decide) h2⟩, rfl⟩

section
variable {c k : Nat} (hk : RateCode k)
include hk

/-- Halving a rate is exact. -/
theorem rate_half : (F32.ofCode false k).div Config.two = F32.ofCode false (k - 8388608) := by
  have htwo : Config.two = F32.ofCode false 0x40000000 := by decide
  have htwoUnits : F32.codeUnits 0x40000000 = 2 * 2 ^ 149 := by decide
  have hdouble := F32.codeUnits_add_exponent (c := k - 8388608) (by omega)
  rw [show k - 8388608 + 8388608 = k by omega] at hdouble
  have hnear := F32.roundCode_nearest (F32.codeUnits k * 2 ^ 149) (den := 2 * 2 ^ 149) (by decide)
  have hquot : ((F32.codeUnits k * 2 ^ 149 : ℕ) / (2 * 2 ^ 149 : ℕ) : ℝ) = F32.codeUnits (k - 8388608) := by
    rw [hdouble]; push_cast; ring
  rw [hquot] at hnear
  rw [htwo, F32.div_ofCode (by omega) (by decide) (by decide), htwoUnits, hnear.eq_of_codeUnits]

/-- `TWO_PI * f` of a frequency up to half the rate is at most `3.1415930` times the rate: it is at most `PI` times the rate, raised by
at most `2^-24` of that in rounding, and the next value after `PI` is `1/13176795` of it away. -/
theorem twoPi_mul_le (hc : c ≤ k - 8388608) :
    ∃ p, p < 255 * 8388608 ∧ Config.twoPi.mul (F32.ofCode false c) = F32.ofCode false p ∧
      F32.codeUnits p * 2 ^ 22 ≤ 13176796 * F32.codeUnits k := by
  have hhalf : (F32.codeUnits k : ℝ) = 2 * F32.codeUnits (k - 8388608) := by
    rw [← Nat.cast_ofNat, ← Nat.cast_mul, ← F32.codeUnits_add_exponent (by omega), show k - 8388608 + 8388608 = k by omega]
  have hunits : (F32.codeUnits c : ℝ) ≤ F32.codeUnits (k - 8388608) := F32.codeUnits_cast_le hc
  have hlow := F32.codeUnits_cast_le hk.1
  rw [F32.codeUnits_one, Nat.cast_pow, Nat.cast_ofNat] at hlow
  have hnear := F32.roundCode_nearest (F32.codeUnits 0x40C90FDB * F32.codeUnits c) (Nat.two_pow_pos 149)
  have hexact : ((F32.codeUnits 0x40C90FDB * F32.codeUnits c : ℕ) / (2 ^ 149 : ℕ) : ℝ) ≤ 13176795 * F32.codeUnits k / 2 ^ 22 := by
    rw [codeUnits_twoPi]
    push_cast
    linarith
  have hround := hnear.codeUnits_le hexact (by linarith)
  generalize hp : F32.roundCode (F32.codeUnits 0x40C90FDB * F32.codeUnits c) (2 ^ 149) = p at hround
  have hbound : F32.codeUnits p * 2 ^ 22 ≤ 13176796 * F32.codeUnits k := by
    have : (F32.codeUnits p * 2 ^ 22 : ℝ) ≤ 13176796 * F32.codeUnits k := by linarith
    exact_mod_cast this
  have hfin : F32.codeUnits p < F32.codeUnits (255 * 8388608) := by
    have hhigh : F32.codeUnits k ≤ F32.codeUnits 0x483B8000 := F32.codeUnits_strictMono.monotone hk.2
    rw [codeUnits_maxRate] at hhigh
    rw [F32.codeUnits_firstInfinite]
    linarith
  exact ⟨p, F32.codeUnits_strictMono.lt_iff_lt.mp hfin, by rw [twoPi_eq_ofCode, F32.mul_ofCode (by decide) (by omega), hp], hbound⟩

/-- The argument before its sign is turned: at most `3.1415930`. -/
theorem twoPi_mul_div_le (hc : c ≤ k - 8388608) :
    ∃ a, a ≤ 0x40490FDC ∧ (Config.twoPi.mul (F32.ofCode false c)).div (F32.ofCode false k) = F32.ofCode false a := by
  obtain ⟨p, hp, hmul, hle⟩ := twoPi_mul_le hk hc
  have hpos : 0 < F32.codeUnits k := F32.codeUnits_strictMono (show 0 < k by omega)
  refine ⟨_, F32.roundCode_le hpos ?_, by rw [hmul, F32.div_ofCode hp (by omega) (by omega)]⟩
  rw [codeUnits_pi_succ]
  calc F32.codeUnits p * 2 ^ 149 = F32.codeUnits p * 2 ^ 22 * 2 ^ 127 := by ring
    _ ≤ 13176796 * F32.codeUnits k * 2 ^ 127 := Nat.mul_le_mul_right _ hle
    _ = 13176796 * 2 ^ 127 * F32.codeUnits k := by ring

theorem opExponent_of_pos {v : F32} (hv : F32.lt F32.zero v = true) :
    ∃ a, a ≤ 0x40490FDC ∧ opExponent (F32.ofCode false k) v = (F32.ofCode false a).negate := by
  have hfin : k - 8388608 < 255 * 8388608 := by omega
  have hhalf : F32.lt F32.zero (F32.ofCode false (k - 8388608)) = true := F32.zero_lt_ofCode (by omega) hfin
  have hpos := F32.lt_clamp hhalf hv
  have hle := (F32.clamp_range (v := v) (F32.le_of_lt hhalf)).2
  obtain ⟨c, -, hc, hclamp⟩ := F32.exists_code_of_pos (F32.isFinite_of_pos_of_le hpos hle (F32.ofCode_isFinite hfin)) hpos
  rw [hclamp] at hle
  obtain ⟨a, ha, hquot⟩ := twoPi_mul_div_le hk (F32.code_le_of_le hc hfin hle)
  exact ⟨a, ha, by rw [opExponent, rate_half hk, hclamp, hquot]⟩

/-- A frequency that is not positive is taken as a zero, and so is the argument. -/
theorem opExponent_of_not_pos {v : F32} (hv : F32.lt F32.zero v = false) :
    ∃ neg, opExponent (F32.ofCode false k) v = F32.zeroOf neg := by
  have hhalf : F32.le F32.zero (F32.ofCode false (k - 8388608)) = true := F32.zero_le_ofCode _
  obtain ⟨neg, hclamp⟩ := F32.exists_zeroOf_of_feq_zero (F32.clamp_feq_lo hhalf hv)
  have hmul : Config.twoPi.mul (F32.zeroOf neg) = F32.zeroOf neg := by cases neg <;> decide
  exact ⟨!neg, by rw [opExponent, rate_half hk, hclamp, hmul, F32.zeroOf_div_ofCode neg (by omega) (by omega)]; rfl⟩

end

end Machine

end Sys2Proof

open Sys2Proof Sys2Proof.Machine

/-- Settles O41: the argument is a zero or the negative of a value up to `3.1415930`, `b1` is what R6 says of `NUM.exp` there, and
`a0` is 1 less it. -/
theorem onePoleCoefficientRange : Obligations.OnePoleCoefficientRange := by
  unfold Obligations.OnePoleCoefficientRange
  intro n o v h1 h2
  obtain ⟨k, hk, hfs⟩ := exists_rateCode h1 h2
  have harg : F32.le (F32.ofBits 0xC0490FDC#32) (opExponent o.fs v) = true ∧ F32.le (opExponent o.fs v) F32.zero = true := by
    rw [hfs]
    cases hv : F32.lt F32.zero v with
    | true =>
      obtain ⟨a, ha, hexp⟩ := opExponent_of_pos hk hv
      rw [hexp, show F32.ofBits 0xC0490FDC#32 = (F32.ofCode false 0x40490FDC).negate by decide]
      exact F32.negate_ofCode_range ha (by decide)
    | false =>
      obtain ⟨neg, hexp⟩ := opExponent_of_not_pos hk hv
      rw [hexp]
      cases neg <;> decide
  have hb1 : Within (opSetFrequency n o v).b1 F32.zero Config.one := n.exp_range _ harg.2
  refine ⟨harg.1, harg.2, hb1, F32.one_sub_range hb1.1 hb1.2, fun hv => ?_⟩
  obtain ⟨neg, hexp⟩ := opExponent_of_not_pos hk hv
  have hone : (opSetFrequency n o v).b1 = Config.one := by
    show n.exp (opExponent o.fs v) = _
    rw [hfs, hexp]
    cases neg
    · exact n.exp_zero.1
    · exact n.exp_zero.2
  have ha0 : (opSetFrequency n o v).a0 = Config.one.sub (opSetFrequency n o v).b1 := rfl
  exact ⟨hone, by rw [ha0, hone]; decide⟩
end

section
/-!
SUPPORT. One operation on a named OnePoleLowPass, at its stage: what it leaves, and where it stops (logs 19, 20).
-/

namespace Sys2Proof.Machine

variable {s : State} {g : Stage} {r : FilterRef} {o : OnePole}

theorem onOnePole_of_some (h : s.During (FilterRef.stage r g)) (ho : s.onePole r = some o) (f : OnePole → OnePole × Result) :
    onOnePole s g r f = .next ((s.setOnePole r (f o).1).returning (f o).2) :=
  onOnePole_eq_next.mpr ⟨admits_iff.mpr h, o, ho, rfl⟩

theorem onOnePole_of_none (h : s.During (FilterRef.stage r g)) (ho : s.onePole r = none) (f : OnePole → OnePole × Result) :
    onOnePole s g r f = .refused .absentFilter := by
  simp [onOnePole, ho, admits_iff.mpr h]

theorem exec_opNew_madeElsewhere (hr : r ≠ .bench) (sr : F32) : exec (.opNew r sr) s = .refused .madeElsewhere := by
  cases r with
  | bench => exact absurd rfl hr
  | damp _ => rfl

end Sys2Proof.Machine

open Sys2Proof Sys2Proof.Machine

/-- Settles O40: OP_NEW by its branches, the two others by the rule of an operation on an OnePoleLowPass. -/
theorem onePoleOperations : Obligations.OnePoleOperations := by
  unfold Obligations.OnePoleOperations
  exact fun s r v => ⟨fun hc => execOpNew_eq_next.mpr ⟨rfl, admits_iff.mpr hc, rfl⟩, fun hr => exec_opNew_madeElsewhere hr v,
    fun hd => ⟨fun f hf => onOnePole_of_some hd hf _, fun hf => onOnePole_of_none hd hf _⟩,
    fun hd => ⟨fun f hf => onOnePole_of_some hd hf _, fun hf => onOnePole_of_none hd hf _⟩⟩
end

section
/-!
SUPPORT. AP_PROCESS (`43_allpass.md` R184): one operation on a named Allpass, what it returns and what its lines hold after it.
-/

namespace Sys2Proof.Machine

/-- An operation on an Allpass executes at its stage and replaces that Allpass. -/
theorem onAllpass_completes {s : State} {g : Stage} {r : ApRef} (h : s.During (ApRef.stage r g)) (f : Allpass → Allpass × Result) :
    ∃ t, onAllpass s g r f = .next t ∧ t = (s.setAllpass r (t.allpass r)).returning (f (s.allpass r)).2 ∧
      t.allpass r = (f (s.allpass r)).1 := by
  have hallpass : ((s.setAllpass r (f (s.allpass r)).1).returning (f (s.allpass r)).2).allpass r = (f (s.allpass r)).1 := by simp
  exact ⟨_, onAllpass_eq_next.mpr ⟨admits_iff.mpr h, rfl⟩, by rw [hallpass], hallpass⟩

theorem exec_apProcess (s : State) (r : ApRef) (x : F32) :
    exec (.apProcess r x) s = onAllpass s .render r fun a => ((apProcess a x).1, .sample (apProcess a x).2) := rfl

/-- DL_PROCESS reads the word it has just written where the two indices meet (`40_delayline.md` R128), and an old word elsewhere. -/
theorem dlProcess_reads {l : DelayLine} (h : l.Wf) (x : F32) :
    (dlProcess l x).2 = if l.r = l.w then x else memRead l.buf l.r :=
  memRead_dlWrite h x l.r

/-- The output of AP_PROCESS, from what its two reads return. -/
theorem apProcess_output (a : Allpass) (x : F32) :
    (apProcess a x).2 = ((a.gain.negate.mul x).add (dlProcess a.inLine x).2).add (a.gain.mul (dlRead a.outLine).2) := rfl

end Sys2Proof.Machine

open Sys2Proof Sys2Proof.Machine

/-- Settles O43: by the rule of an operation on an Allpass; each line is written once, at the index its write index had before. -/
theorem allpassProcessing : Obligations.AllpassProcessing := by
  unfold Obligations.AllpassProcessing
  intro s r x hd hin hout
  obtain ⟨t, he, ht, ha⟩ := onAllpass_completes hd fun a => ((apProcess a x).1, .sample (apProcess a x).2)
  refine ⟨t, (apProcess (s.allpass r) x).2, (exec_apProcess s r x).trans he, ht, ?_⟩
  rw [ha]
  refine ⟨?_, rfl, rfl, List.forall_mem_cons.mpr ⟨⟨rfl, memRead_dlWrite hin x⟩,
    List.forall_mem_cons.mpr ⟨⟨rfl, memRead_dlWrite hout _⟩, List.forall_mem_nil _⟩⟩⟩
  rw [apProcess_output, dlProcess_reads hin]
  rfl
end

section
/-!
SUPPORT. An allpass through a run of AP_PROCESS with durations and gains set in between: the input-side line remembers the inputs, the
output-side line the outputs, and so the difference equation (`43_allpass.md` R185).
-/

namespace Sys2Proof.Machine

section
variable {l : DelayLine} {hist : List F32}

/-- A read then a write puts what is written in front of the history, as a DL_PROCESS does. -/
theorem dlReadWrite_delays (h : l.Delays hist) (y : F32) : (dlWrite (dlRead l).1 y).Delays (y :: hist) :=
  ⟨dlWrite_wf y (dlRead_wf h.wf), dlReadWrite_lag y h.wf h.lag, dlWrite_remembers (dlRead_wf h.wf) h.remembers y⟩

/-- DL_READ at a duration of at least 1, before the word `y` of the same call is written, returns the word written `dur` calls ago. -/
theorem dlRead_returns (h : l.Delays hist) (hpos : 1 ≤ l.dur) (y : F32) : (dlRead l).2 = (y :: hist).getD l.dur F32.zero := by
  obtain ⟨hcap, hdur, -⟩ := h.wf
  obtain ⟨j, hj⟩ : ∃ j, l.dur = j + 1 := ⟨l.dur - 1, by omega⟩
  show memRead l.buf l.r = _
  rw [h.lag, hj, List.getD_cons_succ]
  exact h.remembers j (by omega)

end

/-- `getD_last_first` for a word before the last. -/
theorem getD_before_last (xs : List F32) (x : F32) {d : Nat} (hd : 1 ≤ d) :
    (x :: xs.reverse).getD d F32.zero = if d ≤ xs.length then xs.getD (xs.length - d) F32.zero else F32.zero := by
  rw [getD_last_first]
  split
  · exact List.getD_append _ _ _ _ (by omega)
  · rfl

/-- An allpass of two lines of `cap` words with one duration of at least 1, whose input side has been given the inputs `xs` and whose
output side the outputs `ys`, the last first: what a run keeps, whatever the gain. -/
structure Allpass.Delays (cap : Nat) (a : Allpass) (xs ys : List F32) : Prop where
  inLine : a.inLine.Delays xs
  outLine : a.outLine.Delays ys
  inCap : a.inLine.cap = cap
  outCap : a.outLine.cap = cap
  paired : a.outLine.dur = a.inLine.dur
  positive : 1 ≤ a.inLine.dur
  counted : ys.length = xs.length

theorem apNew_delays (k : Parameters) {c : Nat} (hc : 2 ≤ c) (fs : F32) : (apNew k c fs).Delays c [] [] where
  inLine := dlNew_delays (by omega)
  outLine := dlNew_delays (by omega)
  inCap := rfl
  outCap := rfl
  paired := rfl
  positive := show 1 ≤ c - 1 by omega
  counted := rfl

section
variable {cap : Nat} {a : Allpass} {xs ys : List F32}

theorem Allpass.Delays.two_le_cap (h : a.Delays cap xs ys) : 2 ≤ a.inLine.cap := by
  obtain ⟨-, hdur, -⟩ := h.inLine.wf
  have hpos := h.positive
  omega

theorem apSetDuration_delays (h : a.Delays cap xs ys) (d : Nat) : (apSetDuration a d).Delays cap xs ys where
  inLine := dlSetDuration_delays h.inLine _
  outLine := dlSetDuration_delays h.outLine _
  inCap := h.inCap
  outCap := h.outCap
  paired := by
    show min _ (a.outLine.cap - 1) = min _ (a.inLine.cap - 1)
    rw [h.outCap, h.inCap]
  positive := by
    rw [apSetDuration_inLine_dur h.two_le_cap]
    exact Nat.le_max_left 1 _
  counted := h.counted

theorem apSetGain_delays (h : a.Delays cap xs ys) (k : Parameters) (g : F32) : (apSetGain k a g).Delays cap xs ys :=
  { h with }

theorem apProcess_delays (h : a.Delays cap xs ys) (x : F32) :
    (apProcess a x).1.Delays cap (x :: xs) ((apProcess a x).2 :: ys) where
  inLine := dlProcess_delays h.inLine x
  outLine := dlReadWrite_delays h.outLine _
  inCap := h.inCap
  outCap := h.outCap
  paired := h.paired
  positive := h.positive
  counted := congrArg (· + 1) h.counted

/-- A run puts its inputs and its outputs in front of the histories. -/
theorem apRun_delays (k : Parameters) (ops : List ApOp) (h : a.Delays cap xs ys) :
    (apRun k a ops).1.Delays cap ((apRun k a ops).2.1.reverse ++ xs) ((apRun k a ops).2.2.reverse ++ ys) := by
  induction ops generalizing a xs ys with
  | nil => exact h
  | cons op rest ih =>
    cases op with
    | setDuration d => exact ih (apSetDuration_delays h d)
    | setGain g => exact ih (apSetGain_delays h k g)
    | process x =>
      simp only [apRun, List.reverse_cons, List.append_assoc]
      exact ih (apProcess_delays h x)

/-- One call, by the inputs and the outputs of the calls before it. -/
theorem apProcess_returns (h : a.Delays cap xs.reverse ys.reverse) (x : F32) :
    (apProcess a x).2 =
      ((a.gain.negate.mul x).add
          (if a.inLine.dur ≤ xs.length then xs.getD (xs.length - a.inLine.dur) F32.zero else F32.zero)).add
        (a.gain.mul (if a.inLine.dur ≤ xs.length then ys.getD (xs.length - a.inLine.dur) F32.zero else F32.zero)) := by
  have hlen : ys.length = xs.length := by simpa using h.counted
  have hin := (dlProcess_returns h.inLine x).trans (getD_before_last xs x h.positive)
  have hout := dlRead_returns h.outLine (h.paired ▸ h.positive) (apProcess a x).2
  rw [h.paired, getD_before_last ys _ h.positive, hlen] at hout
  rw [apProcess_output, hin, hout]

end

end Sys2Proof.Machine

open Sys2Proof Sys2Proof.Machine

/-- Settles O44: by induction over the run the two lines remember the inputs and the outputs, so a call reads those of `D` calls ago. -/
theorem allpassDifferenceEquation : Obligations.AllpassDifferenceEquation := by
  unfold Obligations.AllpassDifferenceEquation
  intro k c fs x ops hc
  have h : (apRun k (apNew k c fs) ops).1.Delays c (apRun k (apNew k c fs) ops).2.1.reverse
      (apRun k (apNew k c fs) ops).2.2.reverse := by
    simpa using apRun_delays k ops (apNew_delays k hc fs)
  obtain ⟨-, hdur, -⟩ := h.inLine.wf
  rw [h.inCap] at hdur
  exact ⟨by simpa using h.counted, h.paired, h.positive, hdur, apProcess_returns h x⟩
end

section
/-!
SUPPORT. The operations of the limiter (`44_softclip.md` R195, R196) on values of either sign: products and quotients by a positive finite
value are odd and monotone, infinities included, and so the limiter is what `NUM.tanh` is.
-/

namespace Sys2Proof

namespace F32

/-! ## Negation and order -/

@[simp] theorem negate_negate (a : F32) : a.negate.negate = a := by cases a <;> simp [negate]

theorem negate_le_negate {a b : F32} (h : le a b = true) : le b.negate a.negate = true := by
  cases a with
  | finite _ _ _ =>
    cases b with
    | finite _ _ _ =>
      rw [le_finite_iff rfl rfl] at h
      rw [le_finite_iff rfl rfl, negate_scaled, negate_scaled]
      exact neg_le_neg h
    | inf _ => exact h
    | nan => cases h
  | inf s =>
    cases b with
    | finite _ _ _ => simpa [le, negate] using h
    | inf t => simpa [le, negate, or_comm] using h
    | nan => cases h
  | nan => cases h

theorem roundQuot_not (neg : Bool) (num den : Nat) : roundQuot (!neg) num den = (roundQuot neg num den).negate := by
  rw [roundQuot_eq_ofCode, roundQuot_eq_ofCode, ofCode, ofCode]
  split <;> rfl

/-- What lies between the negative of a finite value and that value is at most it in magnitude. -/
theorem absLe_of_within {a b : F32} (hb : b.isFinite = true) (h1 : le b.negate a = true) (h2 : le a b = true) : absLe a b = true := by
  have ha : a.isFinite = true := isFinite_of_within (by simpa) hb h1 h2
  rw [le_finite_iff (by simpa) ha, negate_scaled] at h1
  rw [le_finite_iff ha hb] at h2
  rw [absLe, le_finite_iff (by simpa) (by simpa), abs_scaled, abs_scaled]
  exact (abs_le.mpr ⟨h1, h2⟩).trans (le_abs_self _)

/-! ## Odd monotone functions -/

theorem eq_inf_or_ofCode {a : F32} (hs : a.sign = false) (hn : a.isNaN = false) :
    a = .inf false ∨ ∃ c, c < 255 * 8388608 ∧ a = ofCode false c := by
  cases a with
  | finite neg e f =>
    obtain rfl : neg = false := hs
    exact .inr ⟨_, by omega, finite_eq_ofCode false e f⟩
  | inf neg => exact .inl (congrArg inf hs)
  | nan => cases hn

theorem negate_sign_of_true {a : F32} (h : a.sign = true) : a.negate.sign = false := by
  cases a with
  | finite _ _ _ | inf _ => exact congrArg not h
  | nan => cases h

@[simp] theorem negate_isNaN (a : F32) : a.negate.isNaN = a.isNaN := by cases a <;> rfl

theorem ofCode_le_inf (c : Nat) : le (ofCode false c) (.inf false) = true := by
  rw [← ofCode_inf (Nat.le_max_right c (255 * 8388608))]
  exact ofCode_le_ofCode (Nat.le_max_left _ _)

theorem zero_le_of_sign {a : F32} (hs : a.sign = false) (hn : a.isNaN = false) : le F32.zero a = true := by
  rcases eq_inf_or_ofCode hs hn with rfl | ⟨c, -, rfl⟩
  · rfl
  · exact zero_le_ofCode c

theorem le_zero_of_negate {a : F32} (h : le F32.zero a.negate = true) : le a F32.zero = true := by
  have hneg := negate_le_negate h
  rw [negate_negate] at hneg
  exact le_trans hneg (by decide)

theorem le_zero_of_sign {a : F32} (hs : a.sign = true) (hn : a.isNaN = false) : le a F32.zero = true :=
  le_zero_of_negate (zero_le_of_sign (negate_sign_of_true hs) (by simpa))

/-- A value without the sign bit is at most one with it only where both are zeros. -/
theorem zeros_of_le {a b : F32} (ha : a.sign = false) (hb : b.sign = true) (h : le a b = true) :
    a = zeroOf false ∧ b = zeroOf true := by
  obtain ⟨hna, hnb⟩ := not_nan_of_le h
  have h0a := zero_le_of_sign ha hna
  have hb0 := le_zero_of_sign hb hnb
  obtain ⟨p, rfl⟩ := exists_zeroOf_of_feq_zero (by rw [feq, le_trans h hb0, h0a]; rfl)
  obtain ⟨q, rfl⟩ := exists_zeroOf_of_feq_zero (by rw [feq, hb0, le_trans h0a h]; rfl)
  exact ⟨congrArg zeroOf ha, congrArg zeroOf hb⟩

/-- What multiplying or dividing by a positive finite value does: `f` is odd, keeps the infinity, and is `g` on the codes, which is
monotone and keeps zero. -/
structure Scales (f : F32 → F32) (g : Nat → Nat) : Prop where
  odd : ∀ a, f a.negate = (f a).negate
  infinity : f (.inf false) = .inf false
  code : ∀ c, c < 255 * 8388608 → f (ofCode false c) = ofCode false (g c)
  mono : Monotone g
  zero : g 0 = 0

namespace Scales

variable {f : F32 → F32} {g : Nat → Nat}

theorem map_zeroOf (h : Scales f g) (neg : Bool) : f (zeroOf neg) = zeroOf neg := by
  have hz : f F32.zero = F32.zero := (h.code 0 (by decide)).trans (congrArg (ofCode false) h.zero)
  cases neg with
  | false => exact hz
  | true => exact (h.odd F32.zero).trans (congrArg negate hz)

theorem le_of_sign (h : Scales f g) {a b : F32} (ha : a.sign = false) (hb : b.sign = false) (hab : F32.le a b = true) :
    F32.le (f a) (f b) = true := by
  obtain ⟨hna, hnb⟩ := not_nan_of_le hab
  rcases eq_inf_or_ofCode ha hna with rfl | ⟨c, hc, rfl⟩ <;> rcases eq_inf_or_ofCode hb hnb with rfl | ⟨d, hd, rfl⟩
  · rw [h.infinity]; rfl
  · rw [ofCode, dif_pos hd] at hab; cases hab
  · rw [h.code c hc, h.infinity]
    exact ofCode_le_inf _
  · rw [h.code c hc, h.code d hd]
    exact ofCode_le_ofCode (h.mono (code_le_of_le hc hd hab))

theorem zero_le (h : Scales f g) {a : F32} (hs : a.sign = false) (hn : a.isNaN = false) : F32.le F32.zero (f a) = true := by
  have hz := h.le_of_sign rfl hs (zero_le_of_sign hs hn)
  rwa [show f F32.zero = F32.zero from h.map_zeroOf false] at hz

theorem le_zero (h : Scales f g) {a : F32} (hs : a.sign = true) (hn : a.isNaN = false) : F32.le (f a) F32.zero = true := by
  have hneg := h.zero_le (negate_sign_of_true hs) (by simpa)
  rw [h.odd] at hneg
  exact le_zero_of_negate hneg

/-- Such a function is monotone: on either side of zero by its codes, across zero since it keeps zero. -/
theorem le (h : Scales f g) {a b : F32} (hab : F32.le a b = true) : F32.le (f a) (f b) = true := by
  obtain ⟨hna, hnb⟩ := not_nan_of_le hab
  cases ha : a.sign <;> cases hb : b.sign
  · exact h.le_of_sign ha hb hab
  · obtain ⟨rfl, rfl⟩ := zeros_of_le ha hb hab
    rw [h.map_zeroOf, h.map_zeroOf]
    exact hab
  · exact le_trans (h.le_zero ha hna) (h.zero_le hb hnb)
  · have hneg := h.le_of_sign (negate_sign_of_true hb) (negate_sign_of_true ha) (negate_le_negate hab)
    rw [h.odd, h.odd] at hneg
    simpa using negate_le_negate hneg

end Scales

/-! ## Multiplying and dividing by a positive value -/

theorem negate_mul (a : F32) {b : F32} (hb : b.isFinite = true) : a.negate.mul b = (a.mul b).negate := by
  obtain ⟨t, e', f', rfl⟩ := exists_finite_of_isFinite hb
  cases a with
  | finite s e f => rw [negate, mul_finite, mul_finite, ← roundQuot_not, Bool.not_bne]
  | inf s =>
    rw [negate, (mul_inf_finite _ hb).1, (mul_inf_finite _ hb).1, Bool.not_bne]
    split <;> rfl
  | nan => rfl

theorem negate_div (a : F32) {b : F32} (hb : b.isFinite = true) : a.negate.div b = (a.div b).negate := by
  obtain ⟨t, e', f', rfl⟩ := exists_finite_of_isFinite hb
  cases a with
  | finite s e f =>
    rw [negate, div_finite, div_finite, Bool.not_bne, roundQuot_not]
    split_ifs <;> rfl
  | inf s => rw [negate, (div_inf_finite _ hb).1, (div_inf_finite _ hb).1, Bool.not_bne]; rfl
  | nan => rfl

section
variable {d : Nat} (h0 : 0 < d) (hd : d < 255 * 8388608)
include h0 hd

theorem mul_scales : Scales (·.mul (ofCode false d)) fun c => roundCode (codeUnits c * codeUnits d) (2 ^ 149) where
  odd a := negate_mul a (ofCode_isFinite hd)
  infinity := by
    have hpos : codeUnits d ≠ 0 := (codeUnits_strictMono h0).ne'
    rw [ofCode, dif_pos hd, (mul_inf_finite false rfl).1, if_neg (by rwa [finite_toRat_eq_zero_iff, ofCode_magnitude hd])]; rfl
  code _ hc := mul_ofCode hc hd
  mono _ _ h := roundCode_mono (Nat.two_pow_pos _) (Nat.two_pow_pos _)
    (Nat.mul_le_mul_right _ (Nat.mul_le_mul_right _ (codeUnits_strictMono.monotone h)))
  zero := Nat.le_zero.mp (roundCode_le (Nat.two_pow_pos _) (by simp))

theorem div_scales : Scales (·.div (ofCode false d)) fun c => roundCode (codeUnits c * 2 ^ 149) (codeUnits d) where
  odd a := negate_div a (ofCode_isFinite hd)
  infinity := by rw [(div_inf_finite false (ofCode_isFinite hd)).1, ofCode_sign]; rfl
  code _ hc := div_ofCode hc hd h0
  mono _ _ h := roundCode_mono (codeUnits_strictMono h0) (codeUnits_strictMono h0)
    (Nat.mul_le_mul_right _ (Nat.mul_le_mul_right _ (codeUnits_strictMono.monotone h)))
  zero := Nat.le_zero.mp (roundCode_le (codeUnits_strictMono h0) (by simp))

end

theorem mul_le_mul {a b h : F32} (hf : h.isFinite = true) (hp : lt F32.zero h = true) (hab : le a b = true) :
    le (a.mul h) (b.mul h) = true := by
  obtain ⟨d, h0, hd, rfl⟩ := exists_code_of_pos hf hp
  exact (mul_scales h0 hd).le hab

theorem div_le_div {a b h : F32} (hf : h.isFinite = true) (hp : lt F32.zero h = true) (hab : le a b = true) :
    le (a.div h) (b.div h) = true := by
  obtain ⟨d, h0, hd, rfl⟩ := exists_code_of_pos hf hp
  exact (div_scales h0 hd).le hab

end F32

namespace Machine

/-! ## The limiter at a positive hardness -/

section
variable (n : Num) {h : F32} (hf : h.isFinite = true) (hp : F32.lt F32.zero h = true)
include hf

theorem scProcess_negate {x : F32} (hx : (x.mul h).isFinite = true) : scProcess n h x.negate = (scProcess n h x).negate := by
  rw [scProcess, F32.negate_mul x hf, n.tanh_odd _ hx, F32.negate_div _ hf, scProcess]

include hp

theorem scProcess_mono {x y : F32} (hxy : F32.le x y = true) : F32.le (scProcess n h x) (scProcess n h y) = true :=
  F32.div_le_div hf hp (n.tanh_mono _ _ (F32.mul_le_mul hf hp hxy))

theorem scProcess_within {x : F32} (hx : x.isNaN = false) :
    Within (scProcess n h x) (Config.one.div h).negate (Config.one.div h) := by
  have hmul := F32.not_nan_of_le (F32.mul_le_mul hf hp (F32.le_refl_of x hx))
  obtain ⟨hlow, hhigh⟩ := n.tanh_bound _ hmul.1
  rw [← F32.negate_div _ hf]
  exact ⟨F32.div_le_div hf hp hlow, F32.div_le_div hf hp hhigh⟩

/-- What bounds `1.0 / P[3]` bounds the limiter. -/
theorem scProcess_absLe {x b : F32} (hx : x.isNaN = false) (hb : b.isFinite = true) (hle : F32.le (Config.one.div h) b = true) :
    F32.absLe (scProcess n h x) b = true := by
  obtain ⟨hlow, hhigh⟩ := scProcess_within n hf hp hx
  exact F32.absLe_of_within hb (F32.le_trans (F32.negate_le_negate hle) hlow) (F32.le_trans hhigh hle)

end

end Machine

end Sys2Proof

open Sys2Proof Sys2Proof.Machine

/-- Settles O46: a product and a quotient by the hardness keep the order and the sign, as `NUM.tanh` does, whose bounds 1.0 and -1.0 are
divided by the hardness. -/
theorem softclipBoundedAndMonotone : Obligations.SoftclipBoundedAndMonotone := by
  unfold Obligations.SoftclipBoundedAndMonotone
  intro n h hh
  have hf : h.isFinite = true := F32.isFinite_of_within rfl rfl hh.1 hh.2
  have hp : F32.lt F32.zero h = true := F32.lt_of_lt_le (by decide) hh.1
  have hself := F32.le_refl_of Config.one rfl
  have hmax : F32.le (Config.one.div h) (F32.ofBits 0x44800000#32) = true := by
    rw [show F32.ofBits 0x44800000#32 = Config.one.div (F32.ofBits 0x3A800000#32) by decide]
    exact F32.div_mono rfl (by decide) hself hf (by decide) hh.1
  have hmin : F32.le (Config.one.div (F32.ofBits 0x44800000#32)) (Config.one.div h) = true :=
    F32.div_mono rfl (by decide) hself rfl hp hh.2
  have hfin : (Config.one.div h).isFinite = true := F32.isFinite_of_within (by decide) rfl hmin hmax
  exact ⟨fun x hx => ⟨scProcess_absLe n hf hp hx hfin (F32.le_refl_of _ (F32.not_nan_of_isFinite hfin)),
    scProcess_absLe n hf hp hx rfl hmax⟩, fun _ => scProcess_negate n hf, fun _ _ => scProcess_mono n hf hp⟩

/-- Settles O45: the write of one register as a setter's, and the limiter as a pure operation, each at its stage. -/
theorem softclipOperations : Obligations.SoftclipOperations := by
  unfold Obligations.SoftclipOperations
  exact fun s x => ⟨fun hd => onSetter_eq_next.mpr ⟨admits_iff.mpr hd, rfl⟩,
    fun hr => onPure_eq_next.mpr ⟨admits_iff.mpr hr, rfl⟩⟩
end

section
/-!
SUPPORT. COPRIME (`45_utils.md` R206, R207): the inner loop finds the first acceptable number within its fuel, each value stands beside
the candidate of its index, and a factor of at least 1 never lowers a candidate below `2^24`.
-/

namespace Sys2Proof

namespace F32

theorem ofCode_mul_one {c : Nat} (hc : c < 255 * 8388608) : (ofCode false c).mul Config.one = ofCode false c := by
  have h := roundCode_nearest (codeUnits c * 2 ^ 149) (Nat.two_pow_pos 149)
  rw [Nat.cast_mul, mul_div_cancel_right₀ _ (by positivity)] at h
  rw [one_eq_ofCode, mul_ofCode hc (by decide), codeUnits_one, h.eq_of_codeUnits]

theorem le_truncToNat_ofNat_mul {n : Nat} {factor : F32} (hn : n < 16777216) (hf : factor.isFinite = true)
    (h1 : le Config.one factor = true) : n ≤ ((F32.ofNat n).mul factor).truncToNat := by
  obtain ⟨c, hc, hof, hu⟩ := ofNat_exact hn
  obtain ⟨-, htrunc⟩ := ofNat_toRat_truncToNat hn
  rcases Nat.eq_zero_or_pos n with rfl | hpos
  · exact Nat.zero_le _
  · have hc0 : 0 < c := codeUnits_strictMono.lt_iff_lt.mp (by rw [codeUnits_zero, hu]; positivity)
    have hle := mul_mono_right (ofCode_isFinite hc) (zero_lt_ofCode hc0 hc) hf (by decide) h1
    rw [ofCode_mul_one hc, ← hof] at hle
    exact htrunc.symm.le.trans (truncToNat_mono hle)

end F32

namespace Machine

/-! ## The inner loop -/

/-- The first number from `c` upward that is coprime with all of `acc` is `m` (R206). -/
def FirstAcceptable (acc : List Nat) (c m : Nat) : Prop :=
  c ≤ m ∧ (∀ a ∈ acc, Nat.gcd m a = 1) ∧ ∀ n, c ≤ n → n < m → ∃ a ∈ acc, Nat.gcd n a ≠ 1

theorem coprimeWithAll_iff {acc : List Nat} {m : Nat} : coprimeWithAll acc m = true ↔ ∀ a ∈ acc, Nat.gcd m a = 1 := by
  simp [coprimeWithAll]

theorem le_coprimeFrom (acc : List Nat) (fuel c : Nat) : c ≤ coprimeFrom acc fuel c := by
  induction fuel generalizing c with
  | zero => exact le_refl c
  | succ fuel ih =>
    rw [coprimeFrom]
    split
    · exact le_refl c
    · exact (Nat.le_succ c).trans (ih (c + 1))

/-- The loop finds the first acceptable number where there is an acceptable one among those it tries. -/
theorem coprimeFrom_firstAcceptable {acc : List Nat} {fuel c n : Nat} (hcn : c ≤ n) (hn : n < c + fuel)
    (hacc : ∀ a ∈ acc, Nat.gcd n a = 1) : FirstAcceptable acc c (coprimeFrom acc fuel c) := by
  induction fuel generalizing c with
  | zero => omega
  | succ fuel ih =>
    rw [coprimeFrom]
    split
    case isTrue h => exact ⟨le_refl c, coprimeWithAll_iff.mp h, fun n h1 h2 => absurd h1 (Nat.not_le.mpr h2)⟩
    case isFalse h =>
      rw [coprimeWithAll_iff] at h
      have hne : c ≠ n := fun he => h (he ▸ hacc)
      obtain ⟨hle, hall, hfirst⟩ := ih (c := c + 1) (by omega) (by omega)
      refine ⟨by omega, hall, fun k hk hkm => ?_⟩
      rcases Nat.eq_or_lt_of_le hk with rfl | hlt
      · simpa using h
      · exact hfirst k hlt hkm

/-- Among as many numbers in a row as there is fuel, one is 1 modulo the product of the accepted values (log 21). -/
theorem exists_acceptable {acc : List Nat} (hpos : ∀ a ∈ acc, 1 ≤ a) (c : Nat) :
    ∃ n, c ≤ n ∧ n < c + coprimeFuel acc ∧ ∀ a ∈ acc, Nat.gcd n a = 1 := by
  have hP : 0 < acc.prod := List.prod_pos hpos
  have hlow := Nat.lt_mul_div_succ (c + acc.prod - 1) hP
  have hhigh := Nat.mul_div_le (c + acc.prod - 1) acc.prod
  rw [Nat.mul_add_one] at hlow
  refine ⟨acc.prod * ((c + acc.prod - 1) / acc.prod) + 1, by omega, ?_, fun a ha => ?_⟩
  · rw [coprimeFuel, ← List.prod_eq_foldl]
    omega
  · have hone : Nat.Coprime (acc.prod * ((c + acc.prod - 1) / acc.prod) + 1) acc.prod := by simp
    exact hone.coprime_dvd_right (List.dvd_prod ha)

/-! ## The outer loop -/

theorem coprimeCandidate_next (factor : F32) (start k : Nat) :
    coprimeCandidate factor ((F32.ofNat start).mul factor).truncToNat k = coprimeCandidate factor start (k + 1) := by
  induction k with
  | zero => rfl
  | succ k ih => rw [coprimeCandidate, ih, ← coprimeCandidate]

theorem coprimeLoop_succ (factor : F32) (k c : Nat) (acc : List Nat) :
    coprimeLoop factor (k + 1) c acc = coprimeLoop factor k c acc ++
      [coprimeFrom (coprimeLoop factor k c acc) (coprimeFuel (coprimeLoop factor k c acc)) (coprimeCandidate factor c k)] := by
  induction k generalizing c acc with
  | zero => rfl
  | succ k ih =>
    rw [coprimeLoop, ih, coprimeCandidate_next]
    rfl

/-- One value more is the inner loop's, from the candidate of that index. -/
theorem coprime_succ (start : Nat) (factor : F32) (k : Nat) :
    coprime start factor (k + 1) = coprime start factor k ++
      [coprimeFrom (coprime start factor k) (coprimeFuel (coprime start factor k)) (coprimeCandidate factor start k)] :=
  coprimeLoop_succ factor k start []

section
variable {start count : Nat} {factor : F32}

/-- A longer run begins with the shorter one. -/
theorem take_coprime {k : Nat} (h : k ≤ count) : (coprime start factor count).take k = coprime start factor k := by
  induction count, h using Nat.le_induction with
  | base => exact List.take_of_length_le (coprime_length start factor k).le
  | succ n hkn ih => rw [coprime_succ, List.take_append_of_le_length (by rwa [coprime_length]), ih]

theorem getD_coprime {k : Nat} (h : k < count) : (coprime start factor count).getD k 0 =
    coprimeFrom (coprime start factor k) (coprimeFuel (coprime start factor k)) (coprimeCandidate factor start k) := by
  rw [List.getD_eq_getElem?_getD, ← List.getElem?_take_of_lt (Nat.lt_succ_self k), take_coprime h, coprime_succ,
    ← List.getD_eq_getElem?_getD, List.getD_append_right _ _ _ _ (coprime_length start factor k).le, coprime_length, Nat.sub_self]
  rfl

/-- What bounds the candidates from below bounds the accepted values. -/
theorem le_of_mem_coprime {b : Nat} (h : ∀ j, j < count → b ≤ coprimeCandidate factor start j) :
    ∀ m ∈ coprime start factor count, b ≤ m := by
  induction count with
  | zero => simp [coprime, coprimeLoop]
  | succ k ih =>
    rw [coprime_succ, List.forall_mem_append, List.forall_mem_singleton]
    exact ⟨ih fun j hj => h j (by omega), (h k (Nat.lt_succ_self k)).trans (le_coprimeFrom _ _ _)⟩

/-- The value after `count` is the first acceptable one where the candidates before it are positive. -/
theorem coprime_next_firstAcceptable (h : ∀ j, j < count → 1 ≤ coprimeCandidate factor start j) (c : Nat) :
    FirstAcceptable (coprime start factor count) c
      (coprimeFrom (coprime start factor count) (coprimeFuel (coprime start factor count)) c) := by
  obtain ⟨n, hcn, hn, hacc⟩ := exists_acceptable (le_of_mem_coprime h) c
  exact coprimeFrom_firstAcceptable hcn hn hacc

/-! ## Order -/

/-- A number past every candidate that is coprime with every accepted value, each at least 2, lies past those values. -/
theorem coprime_lt_of_acceptable {n : Nat} (h2 : ∀ j, j < count → 2 ≤ coprimeCandidate factor start j)
    (hc : ∀ j, j < count → coprimeCandidate factor start j ≤ n) (hn : ∀ b ∈ coprime start factor count, Nat.gcd n b = 1) :
    ∀ a ∈ coprime start factor count, a < n := by
  induction count with
  | zero => simp [coprime, coprimeLoop]
  | succ k ih =>
    have hpre : ∀ j, j < k → 2 ≤ coprimeCandidate factor start j := fun j hj => h2 j (by omega)
    obtain ⟨-, -, hfirst⟩ := coprime_next_firstAcceptable (fun j hj => one_le_two.trans (hpre j hj)) (coprimeCandidate factor start k)
    rw [coprime_succ, List.forall_mem_append, List.forall_mem_singleton] at hn ⊢
    obtain ⟨hold, hlast⟩ := hn
    refine ⟨ih hpre (fun j hj => hc j (by omega)) hold, lt_of_le_of_ne (Nat.le_of_not_lt fun hlt => ?_) fun he => ?_⟩
    · obtain ⟨b, hb, hne⟩ := hfirst n (hc k (Nat.lt_succ_self k)) hlt
      exact hne (hold b hb)
    · rw [he, Nat.gcd_self] at hlast
      have hn2 : 2 ≤ n := (h2 k (Nat.lt_succ_self k)).trans (hc k (Nat.lt_succ_self k))
      omega

theorem coprimeCandidate_mono {j k : Nat} (hf : factor.isFinite = true) (h1 : F32.le Config.one factor = true) (hjk : j ≤ k)
    (hlt : ∀ i, i < k → coprimeCandidate factor start i < 16777216) :
    coprimeCandidate factor start j ≤ coprimeCandidate factor start k := by
  induction k, hjk using Nat.le_induction with
  | base => exact le_refl _
  | succ k _ ih =>
    exact (ih fun i hi => hlt i (by omega)).trans (F32.le_truncToNat_ofNat_mul (hlt k (Nat.lt_succ_self k)) hf h1)

/-- Where the candidates start at 2 and do not fall, the values are coprime in pairs and strictly increasing. -/
theorem coprime_pairwise (h2 : ∀ j, j < count → 2 ≤ coprimeCandidate factor start j)
    (hmono : ∀ j k, j ≤ k → k < count → coprimeCandidate factor start j ≤ coprimeCandidate factor start k) :
    (coprime start factor count).Pairwise fun a b => Nat.gcd a b = 1 ∧ a < b := by
  induction count with
  | zero => exact List.Pairwise.nil
  | succ k ih =>
    have hpre : ∀ j, j < k → 2 ≤ coprimeCandidate factor start j := fun j hj => h2 j (by omega)
    obtain ⟨hle, hall, -⟩ := coprime_next_firstAcceptable (fun j hj => one_le_two.trans (hpre j hj)) (coprimeCandidate factor start k)
    have hbelow := coprime_lt_of_acceptable hpre (fun j hj => (hmono j k hj.le (Nat.lt_succ_self k)).trans hle) hall
    rw [coprime_succ, List.pairwise_append]
    refine ⟨ih hpre fun j l hjl hl => hmono j l hjl (by omega), List.pairwise_singleton _ _, fun a ha b hb => ?_⟩
    obtain rfl := List.mem_singleton.mp hb
    exact ⟨(Nat.gcd_comm _ _).trans (hall a ha), hbelow a ha⟩

end

end Machine

end Sys2Proof

open Sys2Proof Sys2Proof.Machine

/-- Settles O49: the value of index `k` is the inner loop's on the values before it, and its fuel reaches a number that is 1 modulo
their product. -/
theorem coprimeFirstAcceptable : Obligations.CoprimeFirstAcceptable := by
  unfold Obligations.CoprimeFirstAcceptable
  intro start count k factor hk hc
  dsimp only
  rw [take_coprime hk.le, getD_coprime hk]
  exact coprime_next_firstAcceptable (fun j hj => hc j (hj.trans hk)) _

/-- Settles O48: candidates below `2^24` convert exactly and do not fall under a factor of at least 1, so a later value is not below an
earlier one, whose inner loop would have taken it, and no value of at least 2 is coprime with itself. -/
theorem coprimeGuarantees : Obligations.CoprimeGuarantees := by
  unfold Obligations.CoprimeGuarantees
  intro start count factor h2 hf h1 hlt
  have hmono : ∀ j k, j ≤ k → k < count → coprimeCandidate factor start j ≤ coprimeCandidate factor start k :=
    fun j k hjk hk => coprimeCandidate_mono hf h1 hjk fun i hi => hlt i (hi.trans hk)
  have hstart : ∀ j, j < count → start ≤ coprimeCandidate factor start j := fun j hj => hmono 0 j (Nat.zero_le j) hj
  have hpair := coprime_pairwise (fun j hj => h2.trans (hstart j hj)) hmono
  exact ⟨coprime_length _ _ _, hpair.imp And.left, hpair.imp And.right, le_of_mem_coprime hstart⟩
end

section
/-!
SUPPORT. HADAMARD and MATVEC (`45_utils.md` R210 to R212): a doubling keeps what R211 says of the matrix, and the entries of the feedback
matrix (`10_state.md` R28) are the halves of those of order 4.
-/

namespace Sys2Proof.Machine

theorem hadamard_two_pow (k : Nat) : hadamard (2 ^ k) = some (hadamardPow k) := by
  rw [hadamard, Nat.log2_two_pow, if_pos rfl]

theorem hadamard_eq_none_iff {n : Nat} : hadamard n = none ↔ ¬ ∃ k, n = 2 ^ k := by
  constructor
  · rintro h ⟨k, rfl⟩
    rw [hadamard_two_pow] at h
    cases h
  · intro h
    rw [hadamard, if_neg fun he => h ⟨_, he⟩]

/-! ## A doubling -/

/-- The scalar product of rows `i` and `j` over `n` columns. -/
def rowProduct (h : List (List Int)) (n i j : Nat) : Int := ((List.range n).map fun l => entry h i l * entry h j l).sum

/-- What R211 says of a matrix of order `n`. -/
structure IsHadamard (n : Nat) (h : List (List Int)) : Prop where
  rows : h.length = n
  columns : ∀ row ∈ h, row.length = n
  sign : ∀ i < n, ∀ j < n, entry h i j = 1 ∨ entry h i j = -1
  symmetric : ∀ i < n, ∀ j < n, entry h i j = entry h j i
  orthogonal : ∀ i < n, ∀ j < n, rowProduct h n i j = if i = j then (n : Int) else 0

/-- The entries of a row that is given in two parts, the first of `n` entries. -/
theorem entry_of_row_append {h : List (List Int)} {n i : Nat} {xs ys : List Int} (hrow : h.getD i [] = xs ++ ys)
    (hlen : xs.length = n) {l : Nat} (hl : l < n) : entry h i l = xs.getD l 0 ∧ entry h i (n + l) = ys.getD l 0 := by
  rw [entry, entry, hrow, List.getD_append _ _ _ _ (by omega), List.getD_append_right _ _ _ _ (by omega), hlen,
    Nat.add_sub_cancel_left]
  exact ⟨rfl, rfl⟩

section
variable {n : Nat} {h : List (List Int)} (hh : IsHadamard n h)
include hh

theorem IsHadamard.length_getD {i : Nat} (hi : i < n) : (h.getD i []).length = n := by
  have hlt : i < h.length := hh.rows.symm ▸ hi
  rw [List.getD_eq_getElem _ _ hlt]
  exact hh.columns _ (List.getElem_mem hlt)

theorem hadamardDouble_upper {i : Nat} (hi : i < n) : (hadamardDouble h).getD i [] = h.getD i [] ++ h.getD i [] := by
  have hlt : i < h.length := hh.rows.symm ▸ hi
  rw [hadamardDouble, List.getD_append _ _ _ _ (by simpa), List.getD_eq_getElem _ _ (by simpa), List.getElem_map,
    List.getD_eq_getElem _ _ hlt]

theorem hadamardDouble_lower {i : Nat} (hi : i < n) :
    (hadamardDouble h).getD (n + i) [] = h.getD i [] ++ (h.getD i []).map fun e => -e := by
  have hlt : i < h.length := hh.rows.symm ▸ hi
  rw [hadamardDouble, List.getD_append_right _ _ _ _ (by simp [hh.rows]), List.length_map, hh.rows, Nat.add_sub_cancel_left,
    List.getD_eq_getElem _ _ (by simpa), List.getElem_map, List.getD_eq_getElem _ _ hlt]

/-- A row of the doubled matrix is a row of `h` twice, the second time with the sign `s` of its half. -/
theorem exists_half_row {i : Nat} (hi : i < n + n) : ∃ r, r < n ∧ ∃ s : Int, (i = r ∧ s = 1 ∨ i = n + r ∧ s = -1) ∧
    ∀ l, l < n → entry (hadamardDouble h) i l = entry h r l ∧ entry (hadamardDouble h) i (n + l) = s * entry h r l := by
  rcases Nat.lt_or_ge i n with hlt | hge
  · refine ⟨i, hlt, 1, .inl ⟨rfl, rfl⟩, fun l hl => ?_⟩
    rw [one_mul]
    exact entry_of_row_append (hadamardDouble_upper hh hlt) (hh.length_getD hlt) hl
  · obtain ⟨r, rfl⟩ := Nat.exists_eq_add_of_le hge
    have hr : r < n := by omega
    refine ⟨r, hr, -1, .inr ⟨rfl, rfl⟩, fun l hl => ?_⟩
    obtain ⟨hleft, hright⟩ := entry_of_row_append (hadamardDouble_lower hh hr) (hh.length_getD hr) hl
    refine ⟨hleft, hright.trans ?_⟩
    rw [neg_one_mul]
    exact List.getD_map (fun e : Int => -e) (l := h.getD r []) (d := 0)

theorem hadamardDouble_sign {i j : Nat} (hi : i < n + n) (hj : j < n + n) :
    entry (hadamardDouble h) i j = 1 ∨ entry (hadamardDouble h) i j = -1 := by
  obtain ⟨r, hr, s, hs, hrow⟩ := exists_half_row hh hi
  obtain ⟨c, hc, t, ht, -⟩ := exists_half_row hh hj
  obtain ⟨hleft, hright⟩ := hrow c hc
  have hsign := hh.sign r hr c hc
  rcases ht with ⟨rfl, -⟩ | ⟨rfl, -⟩
  · rwa [hleft]
  · rw [hright]
    rcases hs with ⟨-, rfl⟩ | ⟨-, rfl⟩ <;> omega

theorem hadamardDouble_symmetric {i j : Nat} (hi : i < n + n) (hj : j < n + n) :
    entry (hadamardDouble h) i j = entry (hadamardDouble h) j i := by
  obtain ⟨r, hr, s, hs, hrow⟩ := exists_half_row hh hi
  obtain ⟨c, hc, t, ht, hcol⟩ := exists_half_row hh hj
  obtain ⟨hrl, hrr⟩ := hrow c hc
  obtain ⟨hcl, hcr⟩ := hcol r hr
  have hsymm := hh.symmetric r hr c hc
  rcases hs with ⟨rfl, rfl⟩ | ⟨rfl, rfl⟩ <;> rcases ht with ⟨rfl, rfl⟩ | ⟨rfl, rfl⟩
  · rw [hrl, hcl, hsymm]
  · rw [hrr, hcl, one_mul, hsymm]
  · rw [hrl, hcr, one_mul, hsymm]
  · rw [hrr, hcr, hsymm]

/-- The two halves of the scalar product are equal where both rows come from one half, and cancel where they do not. -/
theorem hadamardDouble_orthogonal {i j : Nat} (hi : i < n + n) (hj : j < n + n) :
    rowProduct (hadamardDouble h) (n + n) i j = if i = j then ((n + n : Nat) : Int) else 0 := by
  obtain ⟨r, hr, s, hs, hrow⟩ := exists_half_row hh hi
  obtain ⟨q, hq, t, ht, hrow'⟩ := exists_half_row hh hj
  have hleft : ((List.range n).map fun l => entry (hadamardDouble h) i l * entry (hadamardDouble h) j l).sum = rowProduct h n r q := by
    refine congrArg List.sum (List.map_congr_left fun l hl => ?_)
    rw [(hrow l (List.mem_range.mp hl)).1, (hrow' l (List.mem_range.mp hl)).1]
  have hright : ((List.range n).map fun l => entry (hadamardDouble h) i (n + l) * entry (hadamardDouble h) j (n + l)).sum =
      s * t * rowProduct h n r q := by
    rw [rowProduct, ← List.sum_map_mul_left]
    refine congrArg List.sum (List.map_congr_left fun l hl => ?_)
    rw [(hrow l (List.mem_range.mp hl)).2, (hrow' l (List.mem_range.mp hl)).2]
    ring
  have hsplit : rowProduct (hadamardDouble h) (n + n) i j = rowProduct h n r q + s * t * rowProduct h n r q := by
    rw [← hright, ← hleft, rowProduct, List.range_add, List.map_append, List.map_map, List.sum_append]
    rfl
  rw [hsplit, hh.orthogonal r hr q hq]
  rcases hs with ⟨rfl, rfl⟩ | ⟨rfl, rfl⟩ <;> rcases ht with ⟨rfl, rfl⟩ | ⟨rfl, rfl⟩ <;> split_ifs <;> omega

theorem hadamardDouble_isHadamard : IsHadamard (n + n) (hadamardDouble h) where
  rows := by simp [hadamardDouble, hh.rows]
  columns row hrow := by
    rw [hadamardDouble, List.mem_append, List.mem_map, List.mem_map] at hrow
    rcases hrow with ⟨r, hr, rfl⟩ | ⟨r, hr, rfl⟩ <;> simp [hh.columns r hr]
  sign _ hi _ hj := hadamardDouble_sign hh hi hj
  symmetric _ hi _ hj := hadamardDouble_symmetric hh hi hj
  orthogonal _ hi _ hj := hadamardDouble_orthogonal hh hi hj

end

theorem hadamardPow_isHadamard (k : Nat) : IsHadamard (2 ^ k) (hadamardPow k) := by
  induction k with
  | zero => exact ⟨rfl, by decide, by decide, by decide, by decide⟩
  | succ k ih =>
    rw [pow_succ, mul_two]
    exact hadamardDouble_isHadamard ih

/-! ## The feedback matrix -/

theorem mixMatrix_table_toRat (i j : Fin 4) :
    (((mixMatrix Parameters.table).get i).get j).toRat = entry (hadamardPow 2) i j / 2 := by
  have hhalf : (Config.half.mul Parameters.table.matrixScale).mul Config.one = Config.half ∧
      (Config.half.mul Parameters.table.matrixScale).mul Config.minusOne = Config.half.negate := by decide
  have hrat : Config.half.toRat = 1 / 2 := by
    rw [F32.toRat, show Config.half.scaled = 2 ^ 148 by decide]
    norm_num
  have hmix : ((mixMatrix Parameters.table).get i).get j = mixEntry Parameters.table (hadamardPow 2) i j := by
    rw [mixMatrix, show hadamard Config.nCh = some (hadamardPow 2) from hadamard_two_pow 2]
    simp only [Quad.get_build]
  rw [hmix, mixEntry, ← entry]
  rcases (hadamardPow_isHadamard 2).sign i i.isLt j j.isLt with he | he
  · rw [he, if_pos rfl, hhalf.1, hrat, Int.cast_one]
  · rw [he, if_neg (by decide), hhalf.2, F32.negate_toRat, hrat]
    norm_num

theorem mixMatrix_table_orthogonal (i j : Fin 4) :
    ((List.finRange 4).map fun l =>
      (((mixMatrix Parameters.table).get i).get l).toRat * (((mixMatrix Parameters.table).get j).get l).toRat).sum =
      if i = j then 1 else 0 := by
  have h : rowProduct (hadamardPow 2) 4 i j = if i.val = j.val then 4 else 0 :=
    (hadamardPow_isHadamard 2).orthogonal i i.isLt j j.isLt
  have hquarter : ((List.finRange 4).map fun l : Fin 4 =>
      (entry (hadamardPow 2) i l / 2 : ℚ) * (entry (hadamardPow 2) j l / 2)).sum = rowProduct (hadamardPow 2) 4 i j / 4 := by
    rw [rowProduct, ← List.map_coe_finRange_eq_range, List.map_map, Int.cast_list_sum, List.map_map, div_eq_mul_inv,
      ← List.sum_map_mul_right]
    refine congrArg List.sum (List.map_congr_left fun l _ => ?_)
    simp only [Function.comp_apply, Int.cast_mul]
    ring
  simp only [mixMatrix_table_toRat]
  rw [hquarter, h]
  simp only [Fin.val_inj]
  split <;> norm_num

/-! ## The matrix times a vector -/

theorem matvec_get (v : Quad F32) (m : Quad (Quad F32)) (i : Fin 4) : (matvec v m).get i = dotRow (m.get i) v :=
  Quad.get_map _ _ _

end Sys2Proof.Machine

open Sys2Proof Sys2Proof.Machine

/-- Settles O50: every doubling keeps the laws of R211, and the entries of the feedback matrix are those of order 4 halved. -/
theorem hadamardOrthogonal : Obligations.HadamardOrthogonal := by
  unfold Obligations.HadamardOrthogonal
  refine ⟨mixMatrix_table_orthogonal, fun k => ⟨hadamardPow k, hadamard_two_pow k, ?_⟩⟩
  obtain ⟨hrows, hcolumns, hsign, hsymmetric, horthogonal⟩ := hadamardPow_isHadamard k
  exact ⟨hrows, hcolumns, fun i j hi hj => ⟨hsign i hi j hj, hsymmetric i hi j hj⟩, fun i j hi hj => by
    exact_mod_cast horthogonal i hi j hj⟩

/-- Settles O47: each is a pure operation, taken from any configured block. -/
theorem utilsArePure : Obligations.UtilsArePure := by
  unfold Obligations.UtilsArePure
  intro s hs
  have hpure : ∀ r, onPure s .command r = .next { s with audioOut := r } := fun r => onPure_eq_next.mpr ⟨admits_iff.mpr hs, rfl⟩
  exact ⟨fun _ _ _ => hpure _, fun _ => ⟨hpure _, hadamard_eq_none_iff⟩, fun v m => ⟨_, hpure _, matvec_get v m⟩⟩
end

section
/-!
SUPPORT. The setters as steps (`46_fdn_engine.md` R245 to R254): each is one engine function, applied inside a DRAIN.
-/

namespace Sys2Proof.Machine

theorem onSetter_completes {s : State} (hd : s.Draining) (e : Engine) : onSetter s e = .next { s with eng := e, audioOut := .none } :=
  onSetter_eq_next.mpr ⟨admits_iff.mpr hd, rfl⟩

/-- SET_DECAY on the allpass of channel `i` (R247). -/
theorem setDecay_ap (k : Parameters) (e : Engine) (v : F32) (i : Fin 4) :
    (setDecay k e v).ap.get i = apSetGain k (e.ap.get i) (e.ap.get i).gain :=
  Quad.get_map ..

/-- A gain that is stable already is what AP_SET_GAIN of it stores (`43_allpass.md` R183). -/
theorem apSetGain_stable {k : Parameters} {a : Allpass} (h : StableGain k a.gain) : apSetGain k a a.gain = a := by
  rw [apSetGain, apStableGain, F32.clamp_of_within h.1 h.2]

/-- The eight lengths REDERIVE_LENGTHS leaves (R245). -/
theorem rederiveLengths_len (k : Parameters) (e : Engine) :
    (rederiveLengths k e).len.toList = coprime (baseLength k e.p.size e.fs) e.p.progression 8 :=
  lengthFile_toList (coprime_length ..)

/-- APPLY_ABSORPTION on the filter of channel `i` (R254). -/
theorem applyAbsorption_damp (k : Parameters) (e : Engine) (i : Fin 4) :
    (applyAbsorption k e).damp.get i = dampSetCutoff k e.fs e.p.absorption (e.damp.get i) :=
  Quad.get_map ..

theorem Biquad.history_eq_iff {b c : Biquad} : c.history = b.history ↔ c.x1 = b.x1 ∧ c.x2 = b.x2 ∧ c.y1 = b.y1 ∧ c.y2 = b.y2 := by
  simp [Biquad.history]

end Sys2Proof.Machine

open Sys2Proof Sys2Proof.Machine

/-- Settles O10: three setters that write one register each. -/
theorem scalarSetters : Obligations.ScalarSetters := by
  unfold Obligations.ScalarSetters
  exact fun s v hd => ⟨onSetter_completes hd _, onSetter_completes hd _, onSetter_completes hd _⟩

/-- Settles O11: SET_DECAY sets each gain to what it is, within the stable range; SET_PREDELAY is a DL_SET_DURATION of the pre-delay. -/
theorem decayAndPredelaySetters : Obligations.DecayAndPredelaySetters := by
  unfold Obligations.DecayAndPredelaySetters
  intro s v hd
  refine ⟨⟨_, onSetter_completes hd _, rfl, setDecay_ap s.par s.eng v, fun hstable => Quad.ext_get fun i => ?_⟩,
    onSetter_completes hd _⟩
  exact (setDecay_ap s.par s.eng v i).trans (apSetGain_stable (hstable i))

/-- Settles O12: both setters are REDERIVE_LENGTHS of the engine with the register written. -/
theorem lengthSetters : Obligations.LengthSetters := by
  unfold Obligations.LengthSetters
  exact fun s v hd => ⟨⟨_, onSetter_completes hd _, onSetter_completes hd _⟩,
    ⟨_, onSetter_completes hd _, onSetter_completes hd _⟩⟩

/-- Settles O13: the lengths are COPRIME's, and each line of a channel has its duration set from its own. -/
theorem lengthsRederived : Obligations.LengthsRederived := by
  unfold Obligations.LengthsRederived
  exact fun s hd => ⟨_, onSetter_completes hd _, rfl, rederiveLengths_len s.par s.eng,
    fun i => ⟨applyLengths_ap .., applyLengths_dl ..⟩⟩

/-- Settles O14: SET_ABSORPTION is APPLY_ABSORPTION of the engine with the register written, which sets the cutoff of each filter. -/
theorem absorptionApplied : Obligations.AbsorptionApplied := by
  unfold Obligations.AbsorptionApplied
  refine fun s v hd => ⟨⟨_, onSetter_completes hd _, onSetter_completes hd _⟩, ⟨_, onSetter_completes hd _, rfl, fun i => ?_⟩⟩
  have hdamp := applyAbsorption_damp s.par s.eng i
  refine ⟨fun f hf => ?_, fun b hb => ?_⟩
  · exact hdamp.trans (by rw [hf]; rfl)
  · refine ⟨_, hdamp.trans (by rw [hb]; rfl), rfl, ?_⟩
    exact Biquad.history_eq_iff.mp (bqSetLowpass_history ..)
end

section
/-!
SUPPORT. What an operation that sets the engine or takes a message leaves of the filters and of the stand-alone components
(`46_fdn_engine.md` R257): the histories and the rate, one rule per shared operation.
-/

namespace Sys2Proof.Machine

/-- A damping filter of the same kind with the same history, and for a one-pole at the same rate. -/
inductive Damp.KeepsHistory : Damp → Damp → Prop
  | onePole {f g : OnePole} (state : g.state = f.state) (fs : g.fs = f.fs) : KeepsHistory (.onePole f) (.onePole g)
  | biquad {b c : Biquad} (history : c.history = b.history) : KeepsHistory (.biquad b) (.biquad c)

theorem Damp.KeepsHistory.refl (d : Damp) : d.KeepsHistory d := by
  cases d with
  | onePole _ => exact .onePole rfl rfl
  | biquad _ => exact .biquad rfl

theorem Damp.KeepsHistory.of_onePole {d : Damp} {f : OnePole} (h : (Damp.onePole f).KeepsHistory d) :
    ∃ g, d = .onePole g ∧ g.state = f.state ∧ g.fs = f.fs := by
  cases h with
  | onePole hstate hfs => exact ⟨_, rfl, hstate, hfs⟩

theorem Damp.KeepsHistory.of_biquad {d : Damp} {b : Biquad} (h : (Damp.biquad b).KeepsHistory d) :
    ∃ c, d = .biquad c ∧ c.x1 = b.x1 ∧ c.x2 = b.x2 ∧ c.y1 = b.y1 ∧ c.y2 = b.y2 := by
  cases h with
  | biquad hhistory => exact ⟨_, rfl, Biquad.history_eq_iff.mp hhistory⟩

theorem dampSetCutoff_keepsHistory (k : Parameters) (fs cutoff : F32) (d : Damp) : d.KeepsHistory (dampSetCutoff k fs cutoff d) := by
  cases d with
  | onePole _ => exact .onePole rfl rfl
  | biquad _ => exact .biquad (bqSetLowpass_history ..)

/-! ## The engine -/

/-- The four damping filters keep their histories. -/
def Engine.KeepsFilters (e e' : Engine) : Prop := ∀ j, (e.damp.get j).KeepsHistory (e'.damp.get j)

theorem Engine.KeepsFilters.of_eq {e e' : Engine} (h : e'.damp = e.damp) : e.KeepsFilters e' := fun _ => h ▸ .refl _

theorem applyAbsorption_keepsFilters (k : Parameters) (e : Engine) : e.KeepsFilters (applyAbsorption k e) := fun j => by
  rw [applyAbsorption_damp]
  exact dampSetCutoff_keepsHistory ..

theorem setAbsorption_keepsFilters (k : Parameters) (e : Engine) (v : F32) : e.KeepsFilters (setAbsorption k e v) :=
  applyAbsorption_keepsFilters k { e with p := { e.p with absorption := v.clamp k.absorbMin (k.absorbMax e.fs) } }

theorem applyMessage_keepsFilters (k : Parameters) (e : Engine) (word : MsgWord) : e.KeepsFilters (applyMessage k e word) := by
  unfold applyMessage
  split
  · exact .of_eq rfl
  · exact .of_eq rfl
  · exact setAbsorption_keepsFilters k e _
  all_goals exact .of_eq rfl

theorem drainState_keepsFilters (s : State) : s.eng.KeepsFilters (drainState s).eng := by
  show s.eng.KeepsFilters (match (dequeue s.par s.queue).2 with
    | some word => applyMessage s.par s.eng word
    | none => s.eng)
  cases (dequeue s.par s.queue).2 with
  | some word => exact applyMessage_keepsFilters _ _ word
  | none => exact .of_eq rfl

/-! ## The operations -/

section
variable {i : Instr} {s t : State}

theorem onSetter_keepsComponents {e : Engine} (he : onSetter s e = .next t) (hk : s.eng.KeepsFilters e) :
    t.bench = s.bench ∧ s.eng.KeepsFilters t.eng := by
  obtain ⟨-, rfl⟩ := onSetter_eq_next.mp he
  exact ⟨rfl, hk⟩

theorem onPure_keepsComponents {g : Stage} {r : Result} (he : onPure s g r = .next t) :
    t.bench = s.bench ∧ s.eng.KeepsFilters t.eng := by
  obtain ⟨-, rfl⟩ := onPure_eq_next.mp he
  exact ⟨rfl, .of_eq rfl⟩

/-- An operation of the audio agent that names no component and computes no sample keeps the bench and the filters' histories. -/
theorem exec_keepsComponents (ha : i.agent = .audio) (hc : i.onComponent = false) (hx : i.computesSamples = false)
    (he : exec i s = .next t) : t.bench = s.bench ∧ s.eng.KeepsFilters t.eng := by
  cases i with dsimp only [exec] at he
  | reset _ | enq _ | syncFwd | syncBack => simp [Instr.agent] at ha
  | render _ | callback _ | fdnSample _ => simp [Instr.computesSamples] at hx
  | dlNew _ _ | dlSetDuration _ _ | dlWrite _ _ | dlRead _ | dlProcess _ _ | dlProcessBlock _ _
  | bqNew _ | bqSetLowpass _ _ _ | bqSetHighpass _ _ _ | bqSetBandpass _ _ _ | bqSetLowshelf _ _ _ | bqSetHighshelf _ _ _
  | bqSetPeaking _ _ _ _ | bqSetAllpass _ _ _ | bqSetNotch _ _ _ | bqProcess _ _
  | opNew _ _ | opSetFrequency _ _ | opProcess _ _
  | apNew _ _ _ | apSetDelay _ _ | apSetGain _ _ | apProcess _ _ | apSetDuration _ _ => simp [Instr.onComponent] at hc
  | absorption _ | setAbsorption _ => exact onSetter_keepsComponents he (setAbsorption_keepsFilters _ _ _)
  | applyAbsorption => exact onSetter_keepsComponents he (applyAbsorption_keepsFilters _ _)
  | size _ | decay _ | hardness _ | progression _ | drywet _ | width _ | predelay _
  | setSize _ | setDecay _ | setHardness _ | setProgression _ | setDrywet _ | setWidth _ | setPredelay _
  | scSetHardness _ | rederiveLengths => exact onSetter_keepsComponents he (.of_eq rfl)
  | deq => obtain ⟨-, rfl⟩ := accepted_eq_next.mp he; exact ⟨rfl, .of_eq rfl⟩
  | drain => obtain ⟨-, rfl⟩ := accepted_eq_next.mp he; exact ⟨rfl, drainState_keepsFilters s⟩
  | scProcess _ | coprime _ _ _ | hadamard _ | matvec _ _ => exact onPure_keepsComponents he

/-- An operation that writes a sample memory names a component, computes samples or is RESET. -/
theorem mayWriteSamples_eq_false (ha : i.agent = .audio) (hc : i.onComponent = false) (hx : i.computesSamples = false) :
    i.mayWriteSamples = false := by
  cases i with
  | reset _ => cases ha
  | render _ | callback _ | fdnSample _ => cases hx
  | dlNew _ _ | dlWrite _ _ | dlProcess _ _ | dlProcessBlock _ _ | apNew _ _ _ | apProcess _ _ => cases hc
  | _ => rfl

theorem dequeues_eq_false (hx : i.computesSamples = false) (hdeq : i ≠ .deq) (hdrain : i ≠ .drain) : i.dequeues = false := by
  cases i with
  | callback _ => cases hx
  | deq => exact absurd rfl hdeq
  | drain => exact absurd rfl hdrain
  | _ => rfl

end

end Sys2Proof.Machine

open Sys2Proof Sys2Proof.Machine

/-- Settles O16: what the audio agent leaves, what only named operations write, and the filters' histories; where a setter runs is
`exec_setting`. -/
theorem settersKeepSound : Obligations.SettersKeepSound := by
  unfold Obligations.SettersKeepSound
  refine ⟨fun i s t ha hc hx he => ?_, fun i s hc hg => exec_setting hc hg⟩
  obtain ⟨-, -, -, -, -, -, ⟨hslot, htail, htsync, hhsync⟩, hfs, hcap, hfbm⟩ := exec_audio ha he
  obtain ⟨hbench, hfilters⟩ := exec_keepsComponents ha hc hx he
  obtain ⟨-, -, hfb, hlines⟩ := exec_writes he
  refine ⟨hfb hx (by rw [ha]; decide), hfbm, hfs, hcap, hbench, fun l => ?_, fun j f hf => ?_, fun j b hb => ?_,
    fun hdeq hdrain => exec_queue ha (dequeues_eq_false hx hdeq hdrain) he, hslot, htail, htsync, hhsync⟩
  · obtain ⟨hbuf, hw, hlcap⟩ := hlines (mayWriteSamples_eq_false ha hc hx) l
    exact ⟨hbuf, hw, hlcap⟩
  · have h := hfilters j
    rw [hf] at h
    exact h.of_onePole
  · have h := hfilters j
    rw [hb] at h
    exact h.of_biquad
end

section
/-!
SUPPORT. One sample of the network as a step (`46_fdn_engine.md` R240, R243): what it leaves in each channel and in the feedback register.
-/

namespace Sys2Proof.Machine

theorem exec_fdnSample_eq_next {s t : State} {x : F32} :
    exec (.fdnSample x) s = .next t ↔ s.Rendering ∧
      t = { s with
            eng := (fdnSample s.par.num s.eng x).1
            seq := s.seq.afterSample
            audioOut := .stereo (fdnSample s.par.num s.eng x).2.1 (fdnSample s.par.num s.eng x).2.2 } :=
  accepted_eq_next.trans (and_congr_left' admits_iff)

theorem exec_fdnSample_of_rendering {s : State} {k : Nat} (hok : s.cfgOk = true) (hseq : s.seq = .rendering k) (x : F32) :
    exec (.fdnSample x) s = .next
      { s with
        eng := (fdnSample s.par.num s.eng x).1
        seq := .rendering (k + 1)
        audioOut := .stereo (fdnSample s.par.num s.eng x).2.1 (fdnSample s.par.num s.eng x).2.2 } :=
  exec_fdnSample_eq_next.mpr ⟨⟨hok, isRendering_iff.mpr ⟨k, hseq⟩⟩, by rw [hseq]; rfl⟩

theorem dampProcess_of_onePole {d : Damp} {f : OnePole} (h : d = .onePole f) (u : F32) :
    dampProcess d u = (.onePole (opProcess f u).1, (opProcess f u).2) := by
  rw [h]; rfl

theorem dampProcess_of_biquad {d : Damp} {b : Biquad} (h : d = .biquad b) (u : F32) :
    dampProcess d u = (.biquad (bqProcess b u).1, (bqProcess b u).2) := by
  rw [h]; rfl

section
variable (n : Num) (e : Engine) (x : F32)

/-- Steps 1 to 4 of channel `i` leave what the sample leaves in it. -/
theorem fdnSample_channel (i : Fin 4) : (fdnSample n e x).1.channel i = (e.channelSample n (dlProcess e.pre x).2 i).1 := by
  simp only [Engine.channel, fdnSample, Quad.get_map, Quad.get_build]

theorem fdnSample_damp (i : Fin 4) :
    (fdnSample n e x).1.damp.get i = (dampProcess (e.damp.get i) ((dlProcess e.pre x).2.add (e.fb.get i))).1 :=
  congrArg Channel.damp (fdnSample_channel n e x i)

theorem fdnSample_ap (i : Fin 4) : (fdnSample n e x).1.ap.get i =
    (apProcess (e.ap.get i) (dampProcess (e.damp.get i) ((dlProcess e.pre x).2.add (e.fb.get i))).2).1 :=
  congrArg Channel.ap (fdnSample_channel n e x i)

theorem fdnSample_dl (i : Fin 4) : (fdnSample n e x).1.dl.get i =
    (dlProcess (e.dl.get i)
      (apProcess (e.ap.get i) (dampProcess (e.damp.get i) ((dlProcess e.pre x).2.add (e.fb.get i))).2).2).1 :=
  congrArg Channel.dl (fdnSample_channel n e x i)

/-- Steps 5 and 6: the limited outputs of the lanes, mixed by row `j` and scaled by the decay. -/
theorem fdnSample_fb (j : Fin 4) : (fdnSample n e x).1.fb.get j =
    (dotRow (e.fbm.get j) (Quad.build fun i => (e.channelSample n (dlProcess e.pre x).2 i).2)).mul e.p.decay := by
  simp only [fdnSample, Quad.get_map, matvec_get]
  rfl

end

/-- A lane reads its own channel, its feedback register, the hardness and the output of the pre-delay (R243). -/
theorem channelSample_congr {n : Num} {e e' : Engine} {p : F32} {i : Fin 4} (hfb : e.fb.get i = e'.fb.get i)
    (hhard : e.p.hardness = e'.p.hardness) (hchannel : e.channel i = e'.channel i) : e.channelSample n p i = e'.channelSample n p i := by
  rw [Engine.channelSample, Engine.channelSample, hfb, hhard, hchannel]

end Sys2Proof.Machine

open Sys2Proof Sys2Proof.Machine

/-- Settles O25: the channels and the feedback register after the sample, lane by lane; the output stage is the rule's. -/
theorem sampleFollowsSixSteps : Obligations.SampleFollowsSixSteps := by
  unfold Obligations.SampleFollowsSixSteps
  intro s x k hok hseq
  refine ⟨_, _, fun i => (dampProcess (s.eng.damp.get i) ((dlProcess s.eng.pre x).2.add (s.eng.fb.get i))).2, _, _, _, _,
    exec_fdnSample_of_rendering hok hseq x, rfl, fun i => ⟨rfl, fun f hf => ?_, fun b hb => ?_, rfl, fdnSample_ap .., rfl,
    fdnSample_dl .., rfl, rfl, fdnSample_fb ..⟩, rfl⟩
  · have hdamp := dampProcess_of_onePole hf
    exact ⟨congrArg Prod.snd (hdamp _), (fdnSample_damp ..).trans (congrArg Prod.fst (hdamp _))⟩
  · have hdamp := dampProcess_of_biquad hb
    exact ⟨congrArg Prod.snd (hdamp _), (fdnSample_damp ..).trans (congrArg Prod.fst (hdamp _))⟩

/-- Settles O28: a lane is a function of what it reads, and FDN_SAMPLE leaves in each channel, and mixes, what the lanes give. -/
theorem channelsAreIndependent : Obligations.ChannelsAreIndependent := by
  unfold Obligations.ChannelsAreIndependent
  intro s t s' t' x i hs ht hnum hpre hfb hhard hdamp hap hdl
  obtain ⟨-, rfl⟩ := exec_fdnSample_eq_next.mp hs
  obtain ⟨-, rfl⟩ := exec_fdnSample_eq_next.mp ht
  have hlane : s.eng.channelSample s.par.num (dlProcess s.eng.pre x).2 i =
      t.eng.channelSample t.par.num (dlProcess t.eng.pre x).2 i := by
    rw [hnum, hpre]
    exact channelSample_congr hfb hhard (by rw [Engine.channel, Engine.channel, hdamp, hap, hdl])
  exact ⟨hlane, fdnSample_channel .., (fdnSample_channel ..).trans (congrArg Prod.fst hlane.symm), fun j => fdnSample_fb ..⟩
end

section
/-!
SUPPORT. RENDER (`46_fdn_engine.md` R242): its loop over a block cut in two, and the same samples one step after the other.
-/

namespace Sys2Proof.Machine

theorem renderLoop_append (n : Num) (e : Engine) (xs zs : List F32) :
    renderLoop n e (xs ++ zs) =
      ((renderLoop n (renderLoop n e xs).1 zs).1, (renderLoop n e xs).2 ++ (renderLoop n (renderLoop n e xs).1 zs).2) := by
  induction xs generalizing e with
  | nil => rfl
  | cons x xs ih => simp only [List.cons_append, renderLoop, ih]

/-- From RENDERING(k) the samples of a block, one FDN_SAMPLE each, compute what the loop of RENDER does. -/
theorem samplesRun_of_rendering (xs : List F32) {s : State} {k : Nat} (hok : s.cfgOk = true) (hseq : s.seq = .rendering k) :
    ∃ r, samplesRun xs s = some
      ({ s with eng := (renderLoop s.par.num s.eng xs).1, seq := .rendering (k + xs.length), audioOut := r },
        (renderLoop s.par.num s.eng xs).2) := by
  induction xs generalizing s k with
  | nil => exact ⟨s.audioOut, by rw [List.length_nil, Nat.add_zero, ← hseq]; rfl⟩
  | cons x xs ih =>
    obtain ⟨r, hrun⟩ := ih (s := { s with
      eng := (fdnSample s.par.num s.eng x).1
      seq := .rendering (k + 1)
      audioOut := .stereo (fdnSample s.par.num s.eng x).2.1 (fdnSample s.par.num s.eng x).2.2 }) hok rfl
    refine ⟨r, ?_⟩
    simp only [samplesRun, exec_fdnSample_of_rendering hok hseq, hrun, List.length_cons, Nat.add_comm xs.length 1, Nat.add_assoc]
    rfl

theorem State.idle_iff {s : State} : (s.cfgOk && s.seq.isIdle) = true ↔ s.Idle := by rw [Bool.and_eq_true, isIdle_iff]

theorem execRender_completes {s : State} (h : s.Idle) (xs : List F32) : exec (.render xs) s = .next (renderState s xs) :=
  execRender_eq_next.mpr ⟨State.idle_iff.mpr h, rfl⟩

theorem renderState_nil {s : State} (h : s.Idle) : renderState s [] = { s with audioOut := .block [] } := by
  show ({ s with seq := .idle, audioOut := .block [] } : State) = _
  rw [h.2]

theorem renderState_idle {s : State} (h : s.Idle) (xs : List F32) : (renderState s xs).Idle := ⟨h.1, rfl⟩

theorem renderState_append (s : State) (xs zs : List F32) :
    renderState s (xs ++ zs) = (renderState (renderState s xs) zs).returning
      (.block ((renderLoop s.par.num s.eng xs).2 ++ (renderLoop s.par.num (renderState s xs).eng zs).2)) := by
  rw [renderState, renderLoop_append]; rfl

end Sys2Proof.Machine

open Sys2Proof Sys2Proof.Machine

/-- Settles O26: the loop of RENDER is the run of its samples from RENDERING(0), and the loop over two blocks is one after the other. -/
theorem renderIsSampleBySample : Obligations.RenderIsSampleBySample := by
  unfold Obligations.RenderIsSampleBySample
  refine ⟨fun s xs => ?_, fun s xs h => ?_, fun s h => ?_, fun s xs zs h => ?_⟩
  · exact ⟨fun ⟨t, ht⟩ => State.idle_iff.mp (execRender_eq_next.mp ht).1, fun h => ⟨_, execRender_completes h xs⟩⟩
  · obtain ⟨r, hrun⟩ := samplesRun_of_rendering xs (s := { s with seq := .rendering 0 }) h.1 rfl
    rw [Nat.zero_add] at hrun
    exact ⟨_, _, hrun, rfl, renderLoop_length .., rfl, execRender_completes h xs⟩
  · rw [execRender_completes h, renderState_nil h]
  · refine ⟨_, _, _, _, execRender_completes h xs, rfl, execRender_completes (renderState_idle h xs) zs, rfl, ?_⟩
    rw [execRender_completes h, renderState_append]
    rfl
end

section
/-!
SUPPORT. Exact binary32 results (`00_scope.md` R5): products, quotients and sums that need no rounding, and zeros with their signs; and what
the output stage (`46_fdn_engine.md` R241) makes of them.
-/

namespace Sys2Proof

namespace F32

/-! ## Rounding what needs none -/

theorem roundCode_exact {den c : Nat} (hd : 0 < den) : roundCode (codeUnits c * den) den = c := by
  have h := roundCode_nearest (codeUnits c * den) hd
  rw [Nat.cast_mul, mul_div_cancel_right₀ _ (Nat.cast_ne_zero.mpr hd.ne')] at h
  exact h.eq_of_codeUnits

theorem roundCode_zero {den : Nat} (hd : 0 < den) : roundCode 0 den = 0 := by simpa using roundCode_exact (c := 0) hd

theorem signFactor_mul_natCast (s : Bool) {n : Nat} (h : 0 < n) :
    decide (signFactor s * (n : Int) < 0) = s ∧ (signFactor s * (n : Int)).natAbs = n := by
  cases s
  · simp
  · simpa using h

/-- The signed number of units of a code is rounded to that code. -/
theorem roundQuot_units (s : Bool) {c : Nat} (h : 0 < c) :
    roundQuot (signFactor s * (codeUnits c : Int) < 0) (signFactor s * (codeUnits c : Int)).natAbs 1 = ofCode s c := by
  obtain ⟨hsign, habs⟩ := signFactor_mul_natCast s (codeUnits_strictMono h)
  rw [hsign, habs, roundQuot_eq_ofCode, ← Nat.mul_one (codeUnits c), roundCode_exact one_pos]

/-! ## Products and quotients by codes -/

section
variable {c d : Nat} (s t : Bool) (hc : c < 255 * 8388608) (hd : d < 255 * 8388608)
include hc hd

theorem ofCode_mul_ofCode :
    (ofCode s c).mul (ofCode t d) = ofCode (s != t) (roundCode (codeUnits c * codeUnits d) (2 ^ 149)) := by
  rw [ofCode, dif_pos hc, ofCode, dif_pos hd, mul_finite, ofCode_magnitude hc, ofCode_magnitude hd]; rfl

theorem ofCode_div_ofCode (h0 : 0 < d) :
    (ofCode s c).div (ofCode t d) = ofCode (s != t) (roundCode (codeUnits c * 2 ^ 149) (codeUnits d)) := by
  have hpos : codeUnits d ≠ 0 := (codeUnits_strictMono h0).ne'
  rw [ofCode, dif_pos hc, ofCode, dif_pos hd, div_finite, ofCode_magnitude hc, ofCode_magnitude hd, if_neg hpos]; rfl

end

theorem mul_one_of_finite {a : F32} (ha : a.isFinite = true) : a.mul Config.one = a := by
  obtain ⟨s, c, hc, rfl⟩ := exists_code_of_isFinite ha
  rw [one_eq_ofCode, ofCode_mul_ofCode s false hc (by decide), codeUnits_one, roundCode_exact (Nat.two_pow_pos _), Bool.bne_false]

theorem two_eq_ofCode : Config.two = ofCode false 0x40000000 := by decide

theorem codeUnits_two : codeUnits 0x40000000 = 2 * 2 ^ 149 := by decide

theorem ofCode_div_two (s : Bool) {c : Nat} (hc : c < 255 * 8388608) :
    (ofCode s c).div Config.two = ofCode s (roundCode (codeUnits c * 2 ^ 149) (2 * 2 ^ 149)) := by
  rw [two_eq_ofCode, ofCode_div_ofCode s false hc (by decide) (by decide), codeUnits_two, Bool.bne_false]

theorem div_two_isFinite {a : F32} (ha : a.isFinite = true) : (a.div Config.two).isFinite = true := by
  obtain ⟨s, c, hc, rfl⟩ := exists_code_of_isFinite ha
  have hle : roundCode (codeUnits c * 2 ^ 149) (2 * 2 ^ 149) ≤ c :=
    roundCode_le (by positivity) (Nat.mul_le_mul_left _ (Nat.le_mul_of_pos_left _ two_pos))
  rw [ofCode_div_two s hc]
  exact ofCode_isFinite (hle.trans_lt hc)

/-! ## Twice a value and back -/

theorem exists_code_double (c : Nat) : ∃ d, codeUnits d = 2 * codeUnits c := by
  obtain ⟨d, -, hd⟩ := exists_codeUnits_eq (m := if c / 8388608 = 0 then c % 8388608 else 8388608 + c % 8388608)
    (by split <;> omega) (c / 8388608 - 1 + 1)
  exact ⟨d, by rw [hd, codeUnits, pow_succ]; ring⟩

theorem ofCode_add_self (s : Bool) {c d : Nat} (hc : c < 255 * 8388608) (hd : codeUnits d = 2 * codeUnits c) :
    (ofCode s c).add (ofCode s c) = ofCode s d := by
  have hsum : (ofCode s c).scaled + (ofCode s c).scaled = signFactor s * (codeUnits d : Int) := by
    rw [ofCode_scaled hc, hd]; push_cast; ring
  rw [add_finite (ofCode_isFinite hc) (ofCode_isFinite hc), hsum, ofCode_sign, Bool.and_self]
  rcases Nat.eq_zero_or_pos d with rfl | hpos
  · rw [codeUnits_zero, Nat.cast_zero, mul_zero, if_pos rfl, zeroOf_eq_ofCode]
  · have hne : signFactor s * (codeUnits d : Int) ≠ 0 := by
      have := codeUnits_strictMono hpos
      cases s <;> simp <;> omega
    rw [if_neg hne, roundQuot_units s hpos]

theorem add_self_div_two {a : F32} (ha : a.isFinite = true) (h : (a.add a).isFinite = true) : (a.add a).div Config.two = a := by
  obtain ⟨s, c, hc, rfl⟩ := exists_code_of_isFinite ha
  obtain ⟨d, hd⟩ := exists_code_double c
  rw [ofCode_add_self s hc hd] at h ⊢
  have hlt : d < 255 * 8388608 := by
    by_contra hge
    rw [ofCode_inf (Nat.not_lt.mp hge)] at h
    cases h
  rw [ofCode_div_two s hlt, hd, mul_comm 2, mul_assoc, roundCode_exact (by positivity)]

/-! ## Zeros -/

@[simp] theorem zeroOf_isFinite (n : Bool) : (zeroOf n).isFinite = true := rfl

@[simp] theorem zeroOf_scaled (n : Bool) : (zeroOf n).scaled = 0 := by cases n <;> rfl

theorem zeroOf_feq_zeroOf (m n : Bool) : (zeroOf m).feq (zeroOf n) = true := by cases m <;> cases n <;> decide

theorem zeroOf_add_zeroOf (m n : Bool) : (zeroOf m).add (zeroOf n) = zeroOf (m && n) := by
  rw [add_finite rfl rfl, if_pos (by simp)]; rfl

theorem zeroOf_sub_zeroOf (m n : Bool) : (zeroOf m).sub (zeroOf n) = zeroOf (m && !n) := zeroOf_add_zeroOf m !n

theorem zeroOf_div_two (n : Bool) : (zeroOf n).div Config.two = zeroOf n := by
  rw [two_eq_ofCode, zeroOf_div_ofCode n (by decide) (by decide)]

theorem mul_zeroOf {a : F32} (ha : a.isFinite = true) (n : Bool) : a.mul (zeroOf n) = zeroOf (a.sign != n) := by
  obtain ⟨s, c, hc, rfl⟩ := exists_code_of_isFinite ha
  rw [zeroOf_eq_ofCode, ofCode_mul_ofCode s n hc (by decide), codeUnits_zero, Nat.mul_zero, ofCode_sign,
    roundCode_zero (Nat.two_pow_pos _), zeroOf_eq_ofCode]

theorem zeroOf_mul (n : Bool) {a : F32} (ha : a.isFinite = true) : (zeroOf n).mul a = zeroOf (n != a.sign) := by
  obtain ⟨s, c, hc, rfl⟩ := exists_code_of_isFinite ha
  rw [zeroOf_eq_ofCode, ofCode_mul_ofCode n s (by decide) hc, codeUnits_zero, Nat.zero_mul, ofCode_sign,
    roundCode_zero (Nat.two_pow_pos _), zeroOf_eq_ofCode]

theorem add_zeroOf {a : F32} (ha : a.isFinite = true) (h0 : a.scaled ≠ 0) (n : Bool) : a.add (zeroOf n) = a := by
  obtain ⟨s, c, hc, rfl⟩ := exists_code_of_isFinite ha
  have hpos : 0 < c := Nat.pos_of_ne_zero fun h => h0 (by rw [h, ← zeroOf_eq_ofCode, zeroOf_scaled])
  rw [add_finite ha rfl, zeroOf_scaled, add_zero, if_neg h0, ofCode_scaled hc, roundQuot_units s hpos]

theorem sub_zeroOf {a : F32} (ha : a.isFinite = true) (h0 : a.scaled ≠ 0) (n : Bool) : a.sub (zeroOf n) = a := add_zeroOf ha h0 !n

theorem sub_self_of_finite {a : F32} (ha : a.isFinite = true) : a.sub a = zeroOf false := by
  rw [sub, add_finite ha (by simpa), negate_scaled, add_neg_cancel, if_pos rfl, negate_sign ha, Bool.and_not_self]

theorem one_sub_zeroOf (n : Bool) : Config.one.sub (zeroOf n) = Config.one := sub_zeroOf rfl (by decide) n

theorem feq_refl {a : F32} (ha : a.isFinite = true) : a.feq a = true := by
  have hle := le_refl_of a (not_nan_of_isFinite ha)
  rw [feq, hle, Bool.and_self]

/-- A finite value is a zero or has units. -/
theorem eq_zeroOf_or_scaled_ne {a : F32} (ha : a.isFinite = true) : (∃ n, a = zeroOf n) ∨ a.scaled ≠ 0 := by
  by_cases h : a.scaled = 0
  · refine .inl (exists_zeroOf_of_feq_zero ?_)
    rw [feq, Bool.and_eq_true, le_finite_iff ha rfl, le_finite_iff rfl ha, zero_scaled, h]
    exact ⟨le_refl 0, le_refl 0⟩
  · exact .inr h

end F32

namespace Machine

open F32

/-! ## The end of the output stage -/

/-- The last three lines of the output stage (R241): left and right, less what they have in common scaled by `width`. -/
def spread (width l r : F32) : F32 × F32 :=
  let mid := (l.add r).div Config.two
  let side := ((l.sub r).div Config.two).mul width
  (mid.add side, mid.sub side)

theorem outputStage_eq_spread (drywet width x : F32) (fb : Quad F32) :
    outputStage drywet width x fb = spread width
      ((x.mul (Config.one.sub drywet)).add (drywet.mul (fb.c0.add fb.c2)))
      ((x.mul (Config.one.sub drywet)).add (drywet.mul (fb.c1.add fb.c3))) := rfl

section
variable {width : F32} (hw : width.isFinite = true)
include hw

/-- Equal sides pass through: their difference is a zero, whatever the width. -/
theorem spread_equal {x : F32} (hx : x.isFinite = true) (h0 : x.scaled ≠ 0) (hxx : (x.add x).isFinite = true) :
    spread width x x = (x, x) := by
  rw [spread, add_self_div_two hx hxx, sub_self_of_finite hx, zeroOf_div_two, zeroOf_mul _ hw, add_zeroOf hx h0, sub_zeroOf hx h0]

theorem spread_zeros (m n : Bool) : spread width (zeroOf m) (zeroOf n) =
    (zeroOf (m && n && ((m && !n) != width.sign)), zeroOf (m && n && !((m && !n) != width.sign))) := by
  simp only [spread, zeroOf_add_zeroOf, zeroOf_sub_zeroOf, zeroOf_div_two, zeroOf_mul _ hw]

end

/-- At width 0 the two sides are equal. -/
theorem spread_mono {l r : F32} (n : Bool) (hsum : (l.add r).isFinite = true) (hdiff : (l.sub r).isFinite = true) :
    F32.feq (spread (zeroOf n) l r).1 (spread (zeroOf n) l r).2 = true := by
  have hmid := div_two_isFinite hsum
  rw [spread, mul_zeroOf (div_two_isFinite hdiff)]
  rcases eq_zeroOf_or_scaled_ne hmid with ⟨m, hm⟩ | h0
  · rw [hm, zeroOf_add_zeroOf, zeroOf_sub_zeroOf]
    exact zeroOf_feq_zeroOf _ _
  · rw [add_zeroOf hmid h0, sub_zeroOf hmid h0]
    exact feq_refl hmid

end Machine

end Sys2Proof

open Sys2Proof Sys2Proof.Machine

/-- Settles O30: at `drywet` 0 the wet parts are zeros, so both sides are the input; at `width` 0 the sides are equal. -/
theorem outputStageEnds : Obligations.OutputStageEnds := by
  unfold Obligations.OutputStageEnds
  refine ⟨fun drywet width x fb hdry hw hx hxx hl hr => ?_, fun drywet width x fb hwidth hfin => ?_⟩
  · obtain ⟨m, rfl⟩ := F32.exists_zeroOf_of_feq_zero hdry
    rw [outputStage_eq_spread, F32.one_sub_zeroOf, F32.mul_one_of_finite hx, F32.zeroOf_mul m hl, F32.zeroOf_mul m hr]
    rcases F32.eq_zeroOf_or_scaled_ne hx with ⟨n, rfl⟩ | h0
    · rw [F32.zeroOf_add_zeroOf, F32.zeroOf_add_zeroOf, spread_zeros hw]
      exact ⟨F32.zeroOf_feq_zeroOf .., F32.zeroOf_feq_zeroOf ..,
        fun h => absurd (h.symm.trans (F32.zeroOf_feq_zeroOf n false)) Bool.false_ne_true⟩
    · rw [F32.add_zeroOf hx h0, F32.add_zeroOf hx h0, spread_equal hw hx h0 hxx]
      exact ⟨F32.feq_refl hx, F32.feq_refl hx, fun _ => rfl⟩
  · obtain ⟨n, rfl⟩ := F32.exists_zeroOf_of_feq_zero hwidth
    obtain ⟨-, -, hsum, hdiff⟩ := hfin
    rw [outputStage_eq_spread]
    exact spread_mono n hsum hdiff
end

section
/-!
SUPPORT. Silence (`46_fdn_engine.md` R244): lines, filters and feedback registers that hold `+0` answer `+0` to `+0` and stay as they are.
-/

namespace Sys2Proof

namespace F32

/-! ## Signs and finiteness -/

/-- A product with a value of at most 1.0 in magnitude is not rounded past the other factor. -/
theorem mul_isFinite {a : F32} (ha : a.isFinite = true) (t : Bool) {d : Nat} (hd : d ≤ 0x3F800000) :
    (a.mul (ofCode t d)).isFinite = true := by
  obtain ⟨s, c, hc, rfl⟩ := exists_code_of_isFinite ha
  have hunits : codeUnits d ≤ 2 ^ 149 := codeUnits_one ▸ codeUnits_strictMono.monotone hd
  have hle : roundCode (codeUnits c * codeUnits d) (2 ^ 149) ≤ c := roundCode_le (Nat.two_pow_pos _) (Nat.mul_le_mul_left _ hunits)
  rw [ofCode_mul_ofCode s t hc (by omega)]
  exact ofCode_isFinite (hle.trans_lt hc)

theorem sign_of_pos {a : F32} (hf : a.isFinite = true) (hp : lt F32.zero a = true) : a.sign = false := by
  obtain ⟨c, -, -, rfl⟩ := exists_code_of_pos hf hp
  exact ofCode_sign false c

theorem zero_div_of_pos {a : F32} (hf : a.isFinite = true) (hp : lt F32.zero a = true) : F32.zero.div a = F32.zero := by
  obtain ⟨c, h0, hc, rfl⟩ := exists_code_of_pos hf hp
  exact zeroOf_div_ofCode false hc h0

theorem one_sub_eq {a : F32} (ha : a.isFinite = true) : Config.one.sub a =
    if 2 ^ 149 - a.scaled = 0 then zeroOf false else roundQuot (2 ^ 149 - a.scaled < 0) (2 ^ 149 - a.scaled).natAbs 1 := by
  rw [sub, add_finite rfl (by simpa), negate_scaled, one_scaled, ← sub_eq_add_neg]
  rfl

/-- 1.0 is too small to carry a finite value past the end of the range. -/
theorem one_sub_isFinite {a : F32} (ha : a.isFinite = true) : (Config.one.sub a).isFinite = true := by
  rw [one_sub_eq ha]
  split
  · rfl
  · obtain ⟨s, c, hc, rfl⟩ := exists_code_of_isFinite ha
    have hmax : codeUnits c ≤ 16777215 * 2 ^ 253 := codeUnits_lastFinite ▸ codeUnits_strictMono.monotone (by omega)
    have habs : (2 ^ 149 - (ofCode s c).scaled).natAbs ≤ 2 ^ 149 + 16777215 * 2 ^ 253 := by
      rw [ofCode_scaled hc]
      cases s <;> simp <;> omega
    refine ofCode_isFinite ((roundCode_nearest _ one_pos).finite_iff.mpr ?_)
    rw [Nat.cast_one, div_one]
    calc ((2 ^ 149 - (ofCode s c).scaled).natAbs : ℝ) ≤ ((2 ^ 149 + 16777215 * 2 ^ 253 : ℕ) : ℝ) := Nat.cast_le.mpr habs
      _ < (2 ^ 128 - 2 ^ 103) * 2 ^ 149 := by norm_num

/-- A value past 1.0 has no sign bit. -/
theorem one_sub_sign {a : F32} (ha : a.isFinite = true) : ((Config.one.sub a).sign && a.sign) = false := by
  rw [one_sub_eq ha]
  split
  · rfl
  · obtain ⟨s, c, hc, rfl⟩ := exists_code_of_isFinite ha
    rw [roundQuot_sign, ofCode_sign, ofCode_scaled hc]
    cases s
    · exact Bool.and_false _
    · simp; omega

end F32

theorem Parameters.Legal.matrixScale_within {k : Parameters} (h : k.Legal) : Machine.Within k.matrixScale F32.zero Config.one := by
  obtain ⟨⟨-, -, -, -, -, -, -, -, -, -, -, -, -, -, -, h0, h1⟩, -⟩ := h
  exact ⟨h0, h1⟩

theorem Parameters.Legal.hardMin_pos {k : Parameters} (h : k.Legal) : F32.lt F32.zero k.hardMin = true := by
  obtain ⟨⟨-, -, -, -, -, -, -, -, -, -, -, -, hhard, -⟩, -⟩ := h
  exact hhard

theorem Parameters.Legal.stableMax_isFinite {k : Parameters} (h : k.Legal) : k.stableMax.isFinite = true := by
  obtain ⟨⟨-, -, -, -, -, -, hpos, hlt, -⟩, -⟩ := h
  exact F32.isFinite_of_pos_of_le hpos (F32.le_of_lt hlt) rfl

namespace Machine

open F32

/-! ## Lines and allpasses -/

/-- A line in range that holds `+0` in every word. -/
structure DelayLine.Silent (l : DelayLine) : Prop where
  wf : l.Wf
  words : ∀ a, memRead l.buf a = F32.zero

theorem dlWrite_silent {l : DelayLine} (h : l.Silent) : (dlWrite l F32.zero).Silent :=
  ⟨dlWrite_wf _ h.wf, fun a => by rw [memRead_dlWrite h.wf, h.words, ite_self]⟩

theorem dlRead_silent {l : DelayLine} (h : l.Silent) : (dlRead l).2 = F32.zero ∧ (dlRead l).1.Silent :=
  ⟨h.words _, dlRead_wf h.wf, h.words⟩

theorem dlProcess_silent {l : DelayLine} (h : l.Silent) : (dlProcess l F32.zero).2 = F32.zero ∧ (dlProcess l F32.zero).1.Silent :=
  dlRead_silent (dlWrite_silent h)

/-- An allpass with a finite gain between silent lines. -/
structure Allpass.Silent (a : Allpass) : Prop where
  gain : a.gain.isFinite = true
  inLine : a.inLine.Silent
  outLine : a.outLine.Silent

theorem apProcess_silent {a : Allpass} (h : a.Silent) : (apProcess a F32.zero).2 = F32.zero ∧ (apProcess a F32.zero).1.Silent := by
  obtain ⟨hin, hin'⟩ := dlProcess_silent h.inLine
  obtain ⟨hout, hout'⟩ := dlRead_silent h.outLine
  have hy : (apProcess a F32.zero).2 = F32.zero := by
    rw [apProcess_output, hin, hout, F32.zero, mul_zeroOf (by simpa using h.gain), mul_zeroOf h.gain, zeroOf_add_zeroOf,
      zeroOf_add_zeroOf, Bool.and_false, Bool.false_and]
  refine ⟨hy, h.gain, hin', ?_⟩
  show (dlWrite (dlRead a.outLine).1 (apProcess a F32.zero).2).Silent
  rw [hy]
  exact dlWrite_silent hout'

/-! ## Filters -/

/-- A filter with finite coefficients and a history of `+0`; the first coefficient has no sign bit. -/
def Damp.Silent (d : Damp) : Prop :=
  match d with
  | .onePole f => f.state = F32.zero ∧ f.a0.isFinite = true ∧ f.b1.isFinite = true ∧ f.a0.sign = false
  | .biquad b => b.x1 = F32.zero ∧ b.x2 = F32.zero ∧ b.y1 = F32.zero ∧ b.y2 = F32.zero ∧
      b.b0.isFinite = true ∧ b.b1.isFinite = true ∧ b.b2.isFinite = true ∧ b.a1.isFinite = true ∧ b.a2.isFinite = true ∧
      b.b0.sign = false

theorem dampProcess_silent {d : Damp} (h : d.Silent) : dampProcess d F32.zero = (d, F32.zero) := by
  cases d with
  | onePole f =>
    obtain ⟨fs, a0, b1, state⟩ := f
    obtain ⟨rfl, ha0, hb1, hsign⟩ := h
    have hy : (F32.zero.mul a0).add (F32.zero.mul b1) = F32.zero := by
      rw [F32.zero, zeroOf_mul _ ha0, zeroOf_mul _ hb1, zeroOf_add_zeroOf, hsign]; rfl
    simp only [dampProcess, opProcess, hy]
  | biquad b =>
    obtain ⟨b0, b1, b2, a1, a2, x1, x2, y1, y2⟩ := b
    obtain ⟨rfl, rfl, rfl, rfl, hb0, hb1, hb2, ha1, ha2, hsign⟩ := h
    have hy : ((((b0.mul F32.zero).add (b1.mul F32.zero)).add (b2.mul F32.zero)).sub (a1.mul F32.zero)).sub (a2.mul F32.zero) =
        F32.zero := by
      rw [F32.zero, mul_zeroOf hb0, mul_zeroOf hb1, mul_zeroOf hb2, mul_zeroOf ha1, mul_zeroOf ha2, hsign, zeroOf_add_zeroOf,
        zeroOf_add_zeroOf, zeroOf_sub_zeroOf, zeroOf_sub_zeroOf]
      rfl
    simp only [dampProcess, bqProcess, hy]

/-! ## The limiter and a channel -/

/-- A channel whose filter, allpass and line are silent. -/
structure Channel.Silent (c : Channel) : Prop where
  damp : c.damp.Silent
  ap : c.ap.Silent
  dl : c.dl.Silent

section
variable (n : Num) {h : F32} (hf : h.isFinite = true) (hp : F32.lt F32.zero h = true)
include hf hp

theorem scProcess_zero : scProcess n h F32.zero = F32.zero := by
  have hmul : F32.zero.mul h = F32.zero := by rw [F32.zero, zeroOf_mul _ hf, sign_of_pos hf hp]; rfl
  rw [scProcess, hmul, show n.tanh F32.zero = F32.zero from n.tanh_zero.1, F32.zero_div_of_pos hf hp]

theorem channelSample_silent {c : Channel} (hc : c.Silent) :
    (channelSample n h F32.zero F32.zero c).2 = F32.zero ∧ (channelSample n h F32.zero F32.zero c).1.Silent := by
  obtain ⟨hap, hap'⟩ := apProcess_silent hc.ap
  obtain ⟨hdl, hdl'⟩ := dlProcess_silent hc.dl
  rw [channelSample, show F32.zero.add F32.zero = F32.zero from zeroOf_add_zeroOf false false, dampProcess_silent hc.damp]
  simp only [hap, hdl, scProcess_zero n hf hp]
  exact ⟨trivial, hc.damp, hap', hdl'⟩

end

/-! ## The matrix -/

/-- A row of finite entries, the first of which has no sign bit. -/
structure SilentRow (row : Quad F32) : Prop where
  finite : ∀ i, (row.get i).isFinite = true
  leading : (row.get 0).sign = false

theorem dotRow_silent {row : Quad F32} (h : SilentRow row) : dotRow row (Quad.build fun _ => F32.zero) = F32.zero := by
  have hmul (i : Fin 4) : (row.get i).mul F32.zero = zeroOf ((row.get i).sign != false) := mul_zeroOf (h.finite i) false
  have hfirst : (row.get 0).mul F32.zero = F32.zero := by rw [hmul 0, h.leading]; rfl
  show ((((row.get 0).mul F32.zero).add ((row.get 1).mul F32.zero)).add ((row.get 2).mul F32.zero)).add ((row.get 3).mul F32.zero) = _
  rw [hfirst, hmul 1, hmul 2, hmul 3, F32.zero, zeroOf_add_zeroOf, zeroOf_add_zeroOf, zeroOf_add_zeroOf]
  rfl

theorem mixMatrix_get (k : Parameters) (i j : Fin 4) : ((mixMatrix k).get i).get j = mixEntry k (hadamardPow 2) i j := by
  rw [mixMatrix, show hadamard Config.nCh = some (hadamardPow 2) from hadamard_two_pow 2]
  simp only [Quad.get_build]

/-- Every entry is `0.5 * MATRIX_SCALE` or its negative, and the first column holds no negative one (`10_state.md` R28). -/
theorem mixMatrix_silentRow {k : Parameters} (hk : k.Legal) (hs : k.matrixScale.sign = false) (i : Fin 4) :
    SilentRow ((mixMatrix k).get i) := by
  obtain ⟨h0, h1⟩ := hk.matrixScale_within
  have hfinScale : k.matrixScale.isFinite = true := isFinite_of_within rfl rfl h0 h1
  obtain ⟨s, d, hd, hscale⟩ := exists_code_of_isFinite hfinScale
  rw [hscale, ofCode_sign] at hs
  subst hs
  rw [hscale, one_eq_ofCode] at h1
  have hcode : d ≤ 0x3F800000 := code_le_of_le hd (by decide) h1
  have hfin : (Config.half.mul k.matrixScale).isFinite = true := by
    rw [hscale]
    exact mul_isFinite rfl false hcode
  constructor
  · intro j
    rw [mixMatrix_get, mixEntry]
    split
    · rwa [F32.mul_one_of_finite hfin]
    · rw [show Config.minusOne = ofCode true 0x3F800000 by decide]
      exact mul_isFinite hfin true (le_refl _)
  · have hentry : ((hadamardPow 2).getD i.val []).getD (0 : Fin 4).val 0 = 1 := by revert i; decide
    rw [mixMatrix_get, mixEntry, if_pos hentry, F32.mul_one_of_finite hfin, (mul_roundsTo rfl hfinScale).2, hscale, ofCode_sign]
    rfl

/-! ## The output stage and the whole sample -/

theorem outputStage_silent {drywet width : F32} (hd : drywet.isFinite = true) (hw : width.isFinite = true) {fb : Quad F32}
    (hfb : ∀ i, fb.get i = F32.zero) : outputStage drywet width F32.zero fb = (F32.zero, F32.zero) := by
  have h0 : fb.c0 = F32.zero := hfb 0
  have h1 : fb.c1 = F32.zero := hfb 1
  have h2 : fb.c2 = F32.zero := hfb 2
  have h3 : fb.c3 = F32.zero := hfb 3
  rw [outputStage_eq_spread, h0, h1, h2, h3, F32.zero, zeroOf_mul _ (one_sub_isFinite hd), zeroOf_add_zeroOf, mul_zeroOf hd,
    zeroOf_add_zeroOf, Bool.false_bne, Bool.and_self, Bool.bne_false, one_sub_sign hd, spread_zeros hw]
  rfl

/-- An engine whose channels and pre-delay are silent and whose feedback register is `+0`. -/
structure Engine.Silent (e : Engine) : Prop where
  fb : ∀ i, e.fb.get i = F32.zero
  channel : ∀ i, (e.channel i).Silent
  pre : e.pre.Silent

/-- The factors a sample multiplies by are finite, and give no zero a sign bit. -/
structure Engine.Quiet (e : Engine) : Prop where
  hardness : e.p.hardness.isFinite = true ∧ F32.lt F32.zero e.p.hardness = true
  decay : e.p.decay.isFinite = true ∧ e.p.decay.sign = false
  drywet : e.p.drywet.isFinite = true
  width : e.p.width.isFinite = true
  rows : ∀ i, SilentRow (e.fbm.get i)

theorem fdnSample_silent (n : Num) {e : Engine} (h : e.Silent) (hq : e.Quiet) :
    (fdnSample n e F32.zero).1.Silent ∧ (fdnSample n e F32.zero).2 = (F32.zero, F32.zero) := by
  obtain ⟨hpre, hpre'⟩ := dlProcess_silent h.pre
  have hlane (i : Fin 4) : (e.channelSample n (dlProcess e.pre F32.zero).2 i).2 = F32.zero ∧
      (e.channelSample n (dlProcess e.pre F32.zero).2 i).1.Silent := by
    rw [Engine.channelSample, hpre, h.fb]
    exact channelSample_silent n hq.hardness.1 hq.hardness.2 (h.channel i)
  have hfb (j : Fin 4) : (fdnSample n e F32.zero).1.fb.get j = F32.zero := by
    simp only [fdnSample_fb, (hlane _).1]
    rw [dotRow_silent (hq.rows j), F32.zero, zeroOf_mul _ hq.decay.1, hq.decay.2]
    rfl
  exact ⟨⟨hfb, fun i => fdnSample_channel n e F32.zero i ▸ (hlane i).2, hpre'⟩, outputStage_silent hq.drywet hq.width hfb⟩

/-! ## In the terms of the state -/

theorem Engine.Silent.line {s : State} (h : s.eng.Silent) {l : LineRef} (hl : l.inEngine = true) : (s.line l).Silent := by
  match l, hl with
  | .pre, _ => exact h.pre
  | .dl i, _ => exact (h.channel i).dl
  | .apIn i, _ => exact (h.channel i).ap.inLine
  | .apOut i, _ => exact (h.channel i).ap.outLine

theorem Inv.quiet {s : State} (h : Inv s) (hc : s.cfgOk = true) (hscale : s.par.matrixScale.sign = false)
    (hdecay : s.eng.p.decay.sign = false) : s.eng.Quiet := by
  obtain ⟨-, hdec, -, hhard, -, hdry, hwid, -⟩ := h.params hc
  have hk := h.legal.usable
  have hpos := F32.lt_of_lt_le h.legal.hardMin_pos hhard.1
  refine ⟨⟨isFinite_of_within hk.hardness.1 hk.hardness.2.1 hhard.1 hhard.2, hpos⟩,
    ⟨isFinite_of_within hk.decay.1 hk.decay.2.1 hdec.1 hdec.2, hdecay⟩, isFinite_of_within hk.drywet.1 hk.drywet.2.1 hdry.1 hdry.2,
    isFinite_of_within hk.width.1 hk.width.2.1 hwid.1 hwid.2, fun i => ?_⟩
  rw [h.mixing hc]
  exact mixMatrix_silentRow h.legal hscale i

end Machine

end Sys2Proof

open Sys2Proof Sys2Proof.Machine

/-- Settles O29: in a silent engine every product is a zero, and every sum has `+0` among its terms. -/
theorem silenceIsFixedPoint : Obligations.SilenceIsFixedPoint := by
  unfold Obligations.SilenceIsFixedPoint
  intro s hinv hr hscale hdecay hfb hwords honePole hbiquad
  have hline (l : LineRef) (hl : l.inEngine = true) : (s.line l).Silent := ⟨hinv.lines l (.inl hr.1), hwords l hl⟩
  have hdamp (i : Fin 4) : (s.eng.damp.get i).Silent := by
    cases hd : s.eng.damp.get i with
    | onePole f => exact honePole i f hd
    | biquad b => exact hbiquad i b hd
  have hgain (i : Fin 4) : (s.eng.ap.get i).gain.isFinite = true :=
    F32.isFinite_of_within (by simpa using hinv.legal.stableMax_isFinite) hinv.legal.stableMax_isFinite (hinv.gains hr.1 i).1
      (hinv.gains hr.1 i).2
  have hsilent : s.eng.Silent :=
    ⟨hfb, fun i => ⟨hdamp i, ⟨hgain i, hline (.apIn i) rfl, hline (.apOut i) rfl⟩, hline (.dl i) rfl⟩, hline .pre rfl⟩
  obtain ⟨hnext, hout⟩ := fdnSample_silent s.par.num hsilent (hinv.quiet hr.1 hscale hdecay)
  refine ⟨_, exec_fdnSample_eq_next.mpr ⟨hr, rfl⟩, by rw [hout], hnext.fb, fun l hl => (Engine.Silent.line hnext hl).words,
    fun i f hf => ?_, fun i b hb => ?_⟩
  · have hd : (Damp.onePole f).Silent := hf ▸ (hnext.channel i).damp
    obtain ⟨hstate, -⟩ := hd
    exact hstate
  · have hd : (Damp.biquad b).Silent := hb ▸ (hnext.channel i).damp
    obtain ⟨hx1, hx2, hy1, hy2, -⟩ := hd
    exact ⟨hx1, hx2, hy1, hy2⟩
end

section
/-!
SUPPORT. The four queue steps (`47_parameter_channel.md` R271 to R275): the slots an ENQ leaves, the counters each step leaves, and when
each is enabled.
-/

namespace Sys2Proof.Machine

/-! ## Slots -/

/-- A copied counter moves with its original under `ZERO` alone (R276). -/
theorem syncCopy_eq_ite (lag : CdcLag) (original copied : Nat) :
    syncCopy lag original copied = if lag = .zero then original else copied := by cases lag <;> rfl

/-- A copy stays between what it was and its original. -/
theorem syncCopy_between (lag : CdcLag) {original copied : Nat} (h : copied ≤ original) :
    copied ≤ syncCopy lag original copied ∧ syncCopy lag original copied ≤ original := by
  cases lag with
  | zero => exact ⟨h, le_refl _⟩
  | arbitrary => exact ⟨le_refl _, h⟩

/-- A slot write leaves the other slots, however many there are. -/
theorem slotRead_slotWrite_ne {c : Nat} {m : Slots} {j n : Nat} (h : j % c ≠ n % c) (w : MsgWord) :
    slotRead c (slotWrite c m n w) j = slotRead c m j := by
  rw [slotRead, slotWrite, List.getD_eq_getElem?_getD, List.getElem?_set_ne h.symm, ← List.getD_eq_getElem?_getD, slotRead]

/-- Fewer than `c` messages on from `head`, no slot repeats. -/
theorem slot_ne_of_room {c head tail k : Nat} (hroom : tail - head < c) (hk : head ≤ k) (hkt : k < tail) : k % c ≠ tail % c :=
  fun he => by
    have hzero := Nat.sub_mod_eq_zero_of_mod_eq he.symm
    rw [Nat.mod_eq_of_lt (by omega)] at hzero
    omega

/-! ## Counters -/

/-- `QINV` holds of `q'` and no counter of it is below that of `q` (R273). -/
structure Queue.Advances (k : Parameters) (q q' : Queue) : Prop where
  channel : q'.QInv k
  tail : q.tail ≤ q'.tail
  tailSync : q.tailSync ≤ q'.tailSync
  head : q.head ≤ q'.head
  headSync : q.headSync ≤ q'.headSync

section
variable {k : Parameters} {q : Queue} (h : q.QInv k)
include h

theorem Queue.Advances.refl : q.Advances k q := ⟨h, le_refl _, le_refl _, le_refl _, le_refl _⟩

/-- There is room for a message where the queue does not look full (R271). -/
theorem Queue.QInv.room (hfull : q.tail - q.headSync ≠ k.queueCapacity) : q.tail - q.head < k.queueCapacity := by
  obtain ⟨hhs, hht, htt, hcap⟩ := h
  omega

theorem enqueue_advances (w : MsgWord) : q.Advances k (enqueue k q w).1 := by
  by_cases hfull : q.tail - q.headSync = k.queueCapacity
  · rw [enqueue_full hfull]
    exact .refl h
  · obtain ⟨hhs, hht, htt, hcap⟩ := h
    obtain ⟨hlo, hhi⟩ := syncCopy_between k.cdcLag (Nat.le_succ_of_le htt)
    have hcap' : q.tail + 1 ≤ q.headSync + k.queueCapacity := by omega
    rw [enqueue_room hfull]
    exact ⟨⟨hhs, hht.trans hlo, hhi, hcap'⟩, Nat.le_succ _, hlo, le_refl _, le_refl _⟩

theorem dequeue_advances : q.Advances k (dequeue k q).1 := by
  by_cases hempty : q.tailSync = q.head
  · rw [dequeue_empty hempty]
    exact .refl h
  · obtain ⟨hhs, hht, htt, hcap⟩ := h
    obtain ⟨hlo, hhi⟩ := syncCopy_between k.cdcLag (Nat.le_succ_of_le hhs)
    have hvisible : q.head + 1 ≤ q.tailSync := by omega
    rw [dequeue_visible hempty]
    exact ⟨⟨hhi, hvisible, htt, hcap.trans (Nat.add_le_add_right hlo _)⟩, le_refl _, le_refl _, Nat.le_succ _, hlo⟩

theorem syncForward_advances (hb : q.tailSync < q.tail) : q.Advances k (syncForward q) := by
  obtain ⟨hhs, hht, -, hcap⟩ := h
  exact ⟨⟨hhs, Nat.le_succ_of_le hht, hb, hcap⟩, le_refl _, Nat.le_succ _, le_refl _, le_refl _⟩

theorem syncBackward_advances (hb : q.headSync < q.head) : q.Advances k (syncBackward q) := by
  obtain ⟨-, hht, htt, hcap⟩ := h
  exact ⟨⟨hb, hht, htt, hcap.trans (Nat.add_le_add_right (Nat.le_succ _) _)⟩, le_refl _, le_refl _, le_refl _, Nat.le_succ _⟩

end

/-! ## The steps -/

section
variable {s t : State}

theorem execSyncFwd_eq_next :
    exec .syncFwd s = .next t ↔ s.cfgOk = true ∧ s.par.cdcLag = .arbitrary ∧ s.queue.tailSync < s.queue.tail ∧
      t = { s with queue := syncForward s.queue } :=
  onSync_eq_next.trans (by rw [decide_eq_true_iff, and_left_comm (a := _ < _)])

theorem execSyncBack_eq_next :
    exec .syncBack s = .next t ↔ s.cfgOk = true ∧ s.par.cdcLag = .arbitrary ∧ s.queue.headSync < s.queue.head ∧
      t = { s with queue := syncBackward s.queue } :=
  onSync_eq_next.trans (by rw [decide_eq_true_iff, and_left_comm (a := _ < _)])

/-- The four queue steps keep `QINV` and lower no counter (R273). -/
theorem exec_queueStep_advances {i : Instr} (hi : i.agent = .control ∨ i.agent = .cdc ∨ i = .deq) (h : s.queue.QInv s.par)
    (he : exec i s = .next t) : s.queue.Advances s.par t.queue := by
  rcases hi with ha | ha | rfl
  · obtain ⟨w, rfl⟩ := eq_enq_of_agent ha
    obtain ⟨-, rfl⟩ := execEnq_eq_next.mp he
    exact enqueue_advances h w
  · rcases eq_sync_of_agent ha with rfl | rfl
    · obtain ⟨-, -, hb, rfl⟩ := execSyncFwd_eq_next.mp he
      exact syncForward_advances h hb
    · obtain ⟨-, -, hb, rfl⟩ := execSyncBack_eq_next.mp he
      exact syncBackward_advances h hb
  · obtain ⟨-, rfl⟩ := execDeq_eq_next.mp he
    exact dequeue_advances h

/-- A RESET that succeeds leaves an empty queue (`70_reset_and_hazards.md` R344). -/
theorem execReset_qinv {sr : F32} (he : exec (.reset sr) s = .next t) (hok : t.cfgOk = true) : t.queue.QInv t.par := by
  obtain ⟨-, ht⟩ := accepted_eq_next.mp he
  split at ht
  · subst ht
    exact ⟨le_refl _, le_refl _, le_refl _, Nat.zero_le _⟩
  · subst ht
    cases hok

end

end Sys2Proof.Machine

open Sys2Proof Sys2Proof.Machine

/-- Settles O17: the two branches of ENQ, and that fewer than `Q` messages in the queue leave its slot to the new one. -/
theorem enqueue : Obligations.Enqueue := by
  unfold Obligations.Enqueue
  refine ⟨fun s w => ⟨fun ⟨t, ht⟩ => (execEnq_eq_next.mp ht).1, fun h => ⟨_, execEnq_eq_next.mpr ⟨h, rfl⟩⟩⟩,
    fun s w hok => ⟨fun hfull => execEnq_eq_next.mpr ⟨hok, by rw [enqueue_full hfull]⟩, fun hfull => ?_⟩⟩
  refine ⟨_, execEnq_eq_next.mpr ⟨hok, rfl⟩, ?_⟩
  rw [enqueue_room hfull, syncCopy_eq_ite]
  refine ⟨rfl, slotWrite_length .., fun hq hlen k hk => ?_, fun _ hinv => ⟨hinv.room hfull, fun k hk hkt => ?_⟩⟩
  · rw [slotRead_slotWrite hq hlen, Nat.mod_eq_of_lt hk]
  · exact slotRead_slotWrite_ne (slot_ne_of_room (hinv.room hfull) hk hkt) w

/-- Settles O18: the two branches of DEQ. -/
theorem dequeue : Obligations.Dequeue := by
  unfold Obligations.Dequeue
  refine ⟨fun s => ⟨fun ⟨t, ht⟩ => canDequeue_iff.mp (execDeq_eq_next.mp ht).1,
    fun h => ⟨_, execDeq_eq_next.mpr ⟨canDequeue_iff.mpr h, rfl⟩⟩⟩, fun s h => ⟨fun hempty => ?_, fun hvisible => ?_⟩⟩
  · exact execDeq_eq_next.mpr ⟨canDequeue_iff.mpr h, by rw [dequeue_empty hempty]⟩
  · exact execDeq_eq_next.mpr ⟨canDequeue_iff.mpr h, by rw [dequeue_visible hvisible, syncCopy_eq_ite, slotRead]⟩

/-- Settles O19: everything a SYNC step can do. -/
theorem publicationSteps : Obligations.PublicationSteps := by
  unfold Obligations.PublicationSteps
  refine fun s => ⟨fun hok hlag hb => execSyncFwd_eq_next.mpr ⟨hok, hlag, hb, rfl⟩,
    fun hok hlag hb => execSyncBack_eq_next.mpr ⟨hok, hlag, hb, rfl⟩, ?_, ?_⟩
  · rintro ⟨t, ht⟩
    obtain ⟨hok, hlag, hb, -⟩ := execSyncFwd_eq_next.mp ht
    exact ⟨hok, hlag, hb⟩
  · rintro ⟨t, ht⟩
    obtain ⟨hok, hlag, hb, -⟩ := execSyncBack_eq_next.mp ht
    exact ⟨hok, hlag, hb⟩

/-- Settles O20: each queue step moves its counter within `QINV`, and `QINV` bounds `q_tail` by the stale copy of `q_head`. -/
theorem queueInvariantKept : Obligations.QueueInvariantKept := by
  unfold Obligations.QueueInvariantKept
  refine ⟨fun i s t hi h he => ?_, fun sr s t he hok => execReset_qinv he hok, fun k q ⟨hhs, _, _, hcap⟩ => by omega⟩
  obtain ⟨hinv, htail, htsync, hhead, hhsync⟩ := exec_queueStep_advances hi h he
  have hpar := exec_par he
  exact ⟨hpar, hpar ▸ hinv, htail, htsync, hhead, hhsync⟩
end

section
/-!
SUPPORT. DRAIN and CALLBACK (`47_parameter_channel.md` R277 to R281): the message a DRAIN applies, by its tag, and what the two leave of the
queue.
-/

namespace Sys2Proof.Machine

/-! ## The parts of a message word -/

theorem msgTag_eq_extract (w : MsgWord) : msgTag w = (w.extractLsb' 32 8).toNat := by
  have hw := w.isLt
  rw [msgTag, BitVec.extractLsb'_toNat, Nat.shiftRight_eq_div_pow]
  omega

theorem msgValue_eq_extract (w : MsgWord) : msgValue w = F32.ofBits (w.extractLsb' 0 32) := by
  rw [msgValue, BitVec.extractLsb', Nat.shiftRight_zero]

theorem msgTag_reserved_iff (w : MsgWord) : 8#8 ≤ w.extractLsb' 32 8 ↔ 8 ≤ msgTag w := by
  rw [msgTag_eq_extract, BitVec.le_def, BitVec.toNat_ofNat, Nat.mod_eq_of_lt (by decide)]

/-- A reserved word applies nothing (R278). -/
theorem applyMessage_reserved {k : Parameters} {e : Engine} {w : MsgWord} (h : 8 ≤ msgTag w) : applyMessage k e w = e := by
  unfold applyMessage
  split
  case h_9 => rfl
  all_goals omega

/-! ## DRAIN -/

section
variable {s d : State}

theorem execDrain_completes (h : s.Idle) : exec .drain s = .next (drainState s) := accepted_of h.accepts _

theorem drainState_idle (h : s.Idle) : (drainState s).Idle := ⟨h.1, rfl⟩

/-- The DEQ inside a DRAIN (R277). -/
theorem execDeq_draining (h : s.cfgOk = true) :
    exec .deq { s with seq := .draining } = .next
      { s with seq := .draining, queue := (dequeue s.par s.queue).1, audioOut := .dequeued (dequeue s.par s.queue).2 } :=
  execDeq_eq_next.mpr ⟨canDequeue_iff.mpr ⟨h, .inr rfl⟩, rfl⟩

/-- A DEQ that takes no word leaves the queue (R272). -/
theorem dequeue_none {k : Parameters} {q : Queue} (h : (dequeue k q).2 = none) : (dequeue k q).1 = q := by
  by_cases hempty : q.tailSync = q.head
  · rw [dequeue_empty hempty]
  · rw [dequeue_visible hempty] at h
    cases h

/-- One DEQ, and the message it gave applied (R277). -/
theorem drainState_eq (s : State) :
    drainState s =
      { s with
        queue := (dequeue s.par s.queue).1
        eng := (dequeue s.par s.queue).2.elim s.eng (applyMessage s.par s.eng)
        seq := .idle
        audioOut := .none } := by
  rcases hq : dequeue s.par s.queue with ⟨q, m⟩
  rw [drainState, hq]
  cases m <;> rfl

theorem drainState_none (h : s.Idle) (hm : (dequeue s.par s.queue).2 = none) : drainState s = { s with audioOut := .none } := by
  rw [drainState_eq, dequeue_none hm, hm, ← h.2, Option.elim_none]

theorem drainState_some {w : MsgWord} (hm : (dequeue s.par s.queue).2 = some w) :
    drainState s =
      { s with queue := (dequeue s.par s.queue).1, eng := applyMessage s.par s.eng w, seq := .idle, audioOut := .none } := by
  rw [drainState_eq, hm, Option.elim_some]

/-- A setter executed on what the DEQ left, if it applies the message, leaves what the DRAIN leaves, but in DRAINING (R277). -/
theorem drain_by_setter {i : Instr} {w : MsgWord} {r : Result} (hok : s.cfgOk = true) (hm : (dequeue s.par s.queue).2 = some w)
    (hd : d = { s with seq := .draining, queue := (dequeue s.par s.queue).1, audioOut := r })
    (hi : exec i d = onSetter d (applyMessage s.par s.eng w)) :
    ∃ m, exec i d = .next m ∧ drainState s = { m with seq := .idle } := by
  have hdraining : d.Draining := hd ▸ ⟨hok, rfl⟩
  exact ⟨_, hi.trans (onSetter_completes hdraining _), by rw [drainState_some hm, hd]⟩

end

/-! ## The queue after a DRAIN -/

/-- A DEQ takes at most one message (R272). -/
theorem dequeue_head_le (k : Parameters) (q : Queue) : q.head ≤ (dequeue k q).1.head ∧ (dequeue k q).1.head ≤ q.head + 1 := by
  by_cases hempty : q.tailSync = q.head
  · rw [dequeue_empty hempty]
    exact ⟨le_refl _, Nat.le_succ _⟩
  · rw [dequeue_visible hempty]
    exact ⟨Nat.le_succ _, le_refl _⟩

end Sys2Proof.Machine

open Sys2Proof Sys2Proof.Machine

/-- Settles O23: the word of the DEQ decides; a setter inside the DRAIN applies what `applyMessage` does for its tag. -/
theorem drainAppliesOneMessage : Obligations.DrainAppliesOneMessage := by
  unfold Obligations.DrainAppliesOneMessage
  refine ⟨fun s => ⟨fun ⟨t, ht⟩ => State.idle_iff.mp (accepted_eq_next.mp ht).1, fun h => ⟨_, execDrain_completes h⟩⟩,
    fun s h => ⟨_, _, execDeq_draining h.1, execDrain_completes h, fun hnone => ?_, fun w hsome => ?_⟩⟩
  · exact drainState_none h (Result.dequeued.inj hnone)
  · have hm := Result.dequeued.inj hsome
    dsimp only
    rw [← msgValue_eq_extract, msgTag_reserved_iff]
    refine ⟨fun e he htag => ?_, fun hres => by rw [drainState_some hm, applyMessage_reserved hres]⟩
    refine drain_by_setter h.1 hm rfl ?_
    rw [applyMessage, msgTag_eq_extract, htag]
    simp only [List.mem_cons, List.not_mem_nil, or_false] at he
    rcases he with rfl | rfl | rfl | rfl | rfl | rfl | rfl | rfl <;> rfl

/-- Settles O24: CALLBACK is one step that does DRAIN, whose one DEQ moves `q_head` by at most 1, then RENDER, which leaves the queue. -/
theorem callbackIsDrainThenRender : Obligations.CallbackIsDrainThenRender := by
  unfold Obligations.CallbackIsDrainThenRender
  refine ⟨fun s xs => ⟨fun ⟨t, ht⟩ => State.idle_iff.mp (accepted_eq_next.mp ht).1, fun h => ⟨_, accepted_of h.accepts _⟩⟩,
    fun s xs h => ⟨_, _, execDrain_completes h, execRender_completes (drainState_idle h) xs, accepted_of h.accepts _, ?_⟩⟩
  obtain ⟨hslot, htail, -⟩ := dequeue_audioKeeps s.par s.queue
  obtain ⟨hle, hle'⟩ := dequeue_head_le s.par s.queue
  exact ⟨hle, hle', htail, hslot⟩
end

section
/-!
SUPPORT. What RESET accepts (`70_reset_and_hazards.md` R341, R343) and what an unconfigured block accepts (R342).
-/

namespace Sys2Proof.Machine

theorem execReset_eq_next {sr : F32} {s t : State} :
    exec (.reset sr) s = .next t ↔
      s.seq.canReset = true ∧ t = if resetAccepts s.par sr then resetState s sr else resetFailedState s := accepted_eq_next

/-- RESET may be issued in UNCONFIGURED and in IDLE (R343). -/
theorem execReset_isStep_iff {sr : F32} {s : State} :
    (∃ t, exec (.reset sr) s = .next t) ↔ s.seq = .unconfigured ∨ s.seq = .idle :=
  ⟨fun ⟨_, ht⟩ => canReset_iff.mp (execReset_eq_next.mp ht).1, fun h => ⟨_, execReset_eq_next.mpr ⟨canReset_iff.mpr h, rfl⟩⟩⟩

/-- At every sample rate in the legal range the capacity is at least 2 and fits the line memories (R341). -/
theorem capacityOf_bounds {k : Parameters} (hk : k.Legal) {sr : F32} (hmin : F32.le k.srMin sr = true)
    (hmax : F32.le sr k.srMax = true) : 2 ≤ capacityOf k sr ∧ capacityOf k sr ≤ k.lineMemWords := by
  obtain ⟨⟨-, hsecPos, hsecFin, -, hfits, -⟩, -, -, -, -, -, -, -, hsrPos, -, hsrFin, -, -, -, -, -, -, -, -, htwo, -⟩ := hk
  have hpos : F32.lt F32.zero sr = true := F32.lt_of_lt_le hsrPos hmin
  have hfin : sr.isFinite = true := F32.isFinite_of_pos_of_le hpos hmax hsrFin
  have hmono {a b : F32} (ha : F32.lt F32.zero a = true) (hb : b.isFinite = true) (hab : F32.le a b = true) :
      capacityOf k a ≤ capacityOf k b :=
    Nat.succ_le_succ (F32.truncToNat_mono (F32.mul_mono_right hsecFin hsecPos hb ha hab))
  exact ⟨htwo.trans (hmono hsrPos hfin hmin), (hmono hpos hsrFin hmax).trans hfits⟩

theorem State.During.cfgOk {s : State} {g : Stage} (h : s.During g) : s.cfgOk = true := by
  cases g <;> exact h.1

/-- Every operation but RESET needs a configured block (R342) and leaves it configured. -/
theorem exec_cfgOk {i : Instr} {s t : State} (hi : i.agent ≠ .host) (he : exec i s = .next t) :
    s.cfgOk = true ∧ t.cfgOk = true := by
  cases ha : i.agent with
  | host => exact absurd ha hi
  | control =>
    obtain ⟨w, rfl⟩ := eq_enq_of_agent ha
    obtain ⟨hok, rfl⟩ := execEnq_eq_next.mp he
    exact ⟨hok, hok⟩
  | cdc =>
    rcases eq_sync_of_agent ha with rfl | rfl
    · obtain ⟨hok, -, -, rfl⟩ := execSyncFwd_eq_next.mp he
      exact ⟨hok, hok⟩
    · obtain ⟨hok, -, -, rfl⟩ := execSyncBack_eq_next.mp he
      exact ⟨hok, hok⟩
  | audio =>
    obtain ⟨hduring, hkeeps⟩ := exec_audio ha he
    exact ⟨hduring.cfgOk, hkeeps.cfgOk.trans hduring.cfgOk⟩

end Sys2Proof.Machine

open Sys2Proof Sys2Proof.Machine

/-- Settles O8: RESET's one test, which fails as `resetFailMet_iff` says; at a rate in the legal range the capacity is in its own. -/
theorem resetFailsExactly : Obligations.ResetFailsExactly := by
  unfold Obligations.ResetFailsExactly
  refine ⟨fun s sr hlegal hseq => ?_, fun sr hmin hmax => capacityOf_bounds table_legal hmin hmax, fun _ _ => execReset_isStep_iff⟩
  by_cases hacc : resetAccepts s.par sr = true
  · refine ⟨_, execReset_accepted hseq hacc, .inr ⟨rfl, rfl, hlegal.usable.capacity sr hacc⟩, Iff.trans ?_ (resetFailMet_iff hlegal sr)⟩
    simp [resetState, resetFailMet, hacc]
  · refine ⟨_, execReset_failed hseq hacc, .inl ⟨rfl, rfl⟩, Iff.trans ?_ (resetFailMet_iff hlegal sr)⟩
    simp [resetFailedState, resetFailMet, hacc]

/-- Settles O9: every other operation needs `cfg_ok`. -/
theorem unconfiguredAcceptsOnlyReset : Obligations.UnconfiguredAcceptsOnlyReset := by
  unfold Obligations.UnconfiguredAcceptsOnlyReset
  intro s i hok hseq
  constructor
  · rintro ⟨t, ht⟩
    by_contra hreset
    obtain ⟨hcfg, -⟩ := exec_cfgOk (fun ha => hreset (eq_reset_of_agent ha)) ht
    rw [hok] at hcfg
    cases hcfg
  · rintro ⟨sr, rfl⟩
    exact execReset_isStep_iff.mpr (.inl hseq)
end

section
/-!
SUPPORT. `CDC_LAG` (`47_parameter_channel.md` R276): no operation but a queue step reads it, and a queue step under `ZERO` is the same step
under `ARBITRARY` with the copy moved on at once.
-/

namespace Sys2Proof

/-- The same parameters with `CDC_LAG` = `ARBITRARY`. -/
def Parameters.lagging (k : Parameters) : Parameters := { k with cdcLag := .arbitrary }

namespace Machine

/-- The same state of a block with `CDC_LAG` = `ARBITRARY`. -/
def State.lagging (s : State) : State := { s with par := s.par.lagging }

/-! ## Operations that do not read `CDC_LAG` -/

section
variable {s t : State} {g : Stage}

theorem accepted_lagging {ok : Bool} {s' : State} (he : accepted ok s' = .next t) : accepted ok s'.lagging = .next t.lagging := by
  obtain ⟨hok, rfl⟩ := accepted_eq_next.mp he
  exact accepted_of hok _

theorem setLine_lagging (s : State) (l : LineRef) (d : DelayLine) : s.lagging.setLine l d = (s.setLine l d).lagging := by cases l <;> rfl

theorem setAllpass_lagging (s : State) (r : ApRef) (a : Allpass) : s.lagging.setAllpass r a = (s.setAllpass r a).lagging := by
  cases r <;> rfl

theorem setBiquad_lagging (s : State) (r : FilterRef) (b : Biquad) : s.lagging.setBiquad r b = (s.setBiquad r b).lagging := by
  cases r <;> rfl

theorem setOnePole_lagging (s : State) (r : FilterRef) (o : OnePole) : s.lagging.setOnePole r o = (s.setOnePole r o).lagging := by
  cases r <;> rfl

theorem onLine_lagging {l : LineRef} {f : DelayLine → DelayLine × Result} (he : onLine s g l f = .next t) :
    onLine s.lagging g l f = .next t.lagging := by
  obtain ⟨hg, rfl⟩ := onLine_eq_next.mp he
  have hline : s.lagging.line l = s.line l := by cases l <;> rfl
  exact onLine_eq_next.mpr ⟨hg, by rw [setLine_lagging, hline]; rfl⟩

theorem onAllpass_lagging {r : ApRef} {f : Allpass → Allpass × Result} (he : onAllpass s g r f = .next t) :
    onAllpass s.lagging g r f = .next t.lagging := by
  obtain ⟨hg, rfl⟩ := onAllpass_eq_next.mp he
  have hap : s.lagging.allpass r = s.allpass r := by cases r <;> rfl
  exact onAllpass_eq_next.mpr ⟨hg, by rw [setAllpass_lagging, hap]; rfl⟩

theorem onBiquad_lagging {r : FilterRef} {f : Biquad → Biquad × Result} (he : onBiquad s g r f = .next t) :
    onBiquad s.lagging g r f = .next t.lagging := by
  obtain ⟨hg, b, hb, rfl⟩ := onBiquad_eq_next.mp he
  have hbq : s.lagging.biquad r = s.biquad r := by cases r <;> rfl
  exact onBiquad_eq_next.mpr ⟨hg, b, hbq.trans hb, by rw [setBiquad_lagging]; rfl⟩

theorem onOnePole_lagging {r : FilterRef} {f : OnePole → OnePole × Result} (he : onOnePole s g r f = .next t) :
    onOnePole s.lagging g r f = .next t.lagging := by
  obtain ⟨hg, o, ho, rfl⟩ := onOnePole_eq_next.mp he
  have hop : s.lagging.onePole r = s.onePole r := by cases r <;> rfl
  exact onOnePole_eq_next.mpr ⟨hg, o, hop.trans ho, by rw [setOnePole_lagging]; rfl⟩

theorem execDlNew_lagging {l : LineRef} {c : Nat} (he : execDlNew l c s = .next t) : execDlNew l c s.lagging = .next t.lagging := by
  obtain ⟨hc, hl, hg, rfl⟩ := execDlNew_eq_next.mp he
  exact execDlNew_eq_next.mpr ⟨hc, hl, hg, rfl⟩

theorem execBqNew_lagging {b : FilterRef} (he : execBqNew b s = .next t) : execBqNew b s.lagging = .next t.lagging := by
  obtain ⟨hb, hg, rfl⟩ := execBqNew_eq_next.mp he
  exact execBqNew_eq_next.mpr ⟨hb, hg, rfl⟩

theorem execOpNew_lagging {f : FilterRef} {sr : F32} (he : execOpNew f sr s = .next t) :
    execOpNew f sr s.lagging = .next t.lagging := by
  obtain ⟨hf, hg, rfl⟩ := execOpNew_eq_next.mp he
  exact execOpNew_eq_next.mpr ⟨hf, hg, rfl⟩

theorem execApNew_lagging {a : ApRef} {c : Nat} {sr : F32} (he : execApNew a c sr s = .next t) :
    execApNew a c sr s.lagging = .next t.lagging := by
  obtain ⟨hc, ha, hg, rfl⟩ := execApNew_eq_next.mp he
  exact execApNew_eq_next.mpr ⟨hc, ha, hg, rfl⟩

theorem execReset_lagging {sr : F32} (he : exec (.reset sr) s = .next t) : exec (.reset sr) s.lagging = .next t.lagging := by
  obtain ⟨hacc, rfl⟩ := execReset_eq_next.mp he
  refine execReset_eq_next.mpr ⟨hacc, ?_⟩
  show _ = if resetAccepts s.par sr then _ else _
  split <;> rfl

/-- The operations that move no counter and no copy do not read `CDC_LAG`. -/
theorem exec_lagging {i : Instr} (ha : i.agent = .audio) (hd : i.dequeues = false) (he : exec i s = .next t) :
    exec i s.lagging = .next t.lagging := by
  cases i with dsimp only [exec] at he
  | reset _ | enq _ | syncFwd | syncBack => simp [Instr.agent] at ha
  | deq | drain | callback _ => simp [Instr.dequeues] at hd
  | render _ | fdnSample _
  | size _ | decay _ | absorption _ | hardness _ | progression _ | drywet _ | width _ | predelay _
  | setSize _ | setDecay _ | setAbsorption _ | setHardness _ | setProgression _ | setDrywet _ | setWidth _ | setPredelay _
  | scSetHardness _ | rederiveLengths | applyAbsorption
  | scProcess _ | coprime _ _ _ | hadamard _ | matvec _ _ => exact accepted_lagging he
  | dlNew _ _ => exact execDlNew_lagging he
  | dlSetDuration _ _ | dlWrite _ _ | dlRead _ | dlProcess _ _ | dlProcessBlock _ _ => exact onLine_lagging he
  | bqNew _ => exact execBqNew_lagging he
  | bqSetLowpass _ _ _ | bqSetHighpass _ _ _ | bqSetBandpass _ _ _ | bqSetLowshelf _ _ _ | bqSetHighshelf _ _ _
  | bqSetPeaking _ _ _ _ | bqSetAllpass _ _ _ | bqSetNotch _ _ _ | bqProcess _ _ => exact onBiquad_lagging he
  | opNew _ _ => exact execOpNew_lagging he
  | opSetFrequency _ _ | opProcess _ _ => exact onOnePole_lagging he
  | apNew _ _ _ => exact execApNew_lagging he
  | apSetDelay _ _ | apSetGain _ _ | apProcess _ _ | apSetDuration _ _ => exact onAllpass_lagging he

end

/-! ## The queue steps -/

/-- What the counters of `q` become in `q₂` under `ZERO`, they become from `q₁` by the SYNC step of the one that moved. -/
structure Queue.CatchesUp (q q₁ q₂ : Queue) : Prop where
  forward : q₂.tail ≠ q.tail → q₁.tailSync < q₁.tail ∧ syncForward q₁ = q₂
  backward : q₂.head ≠ q.head → q₁.headSync < q₁.head ∧ syncBackward q₁ = q₂
  same : q₂.tail = q.tail → q₂.head = q.head → q₁ = q₂

theorem Queue.CatchesUp.refl (q : Queue) : q.CatchesUp q q := ⟨fun h => absurd rfl h, fun h => absurd rfl h, fun _ _ => rfl⟩

section
variable {k : Parameters} {q : Queue}

theorem enqueue_lagging_status (w : MsgWord) : (enqueue k.lagging q w).2 = (enqueue k q w).2 := by
  by_cases hfull : q.tail - q.headSync = k.queueCapacity
  · rw [enqueue_full hfull, enqueue_full (k := k.lagging) hfull]
  · rw [enqueue_room hfull, enqueue_room (k := k.lagging) hfull]

theorem enqueue_catchesUp (hz : k.cdcLag = .zero) (hcopy : q.tailSync = q.tail) (w : MsgWord) :
    q.CatchesUp (enqueue k.lagging q w).1 (enqueue k q w).1 := by
  by_cases hfull : q.tail - q.headSync = k.queueCapacity
  · rw [enqueue_full hfull, enqueue_full (k := k.lagging) hfull]
    exact .refl q
  · rw [enqueue_room hfull, enqueue_room (k := k.lagging) hfull, hz]
    refine ⟨fun _ => ⟨?_, ?_⟩, fun h => absurd rfl h, fun h => absurd h (Nat.succ_ne_self _)⟩
    · exact Nat.lt_succ_of_le hcopy.le
    · simp only [syncForward, syncCopy, Parameters.lagging, hcopy]

theorem dequeue_lagging_word : (dequeue k.lagging q).2 = (dequeue k q).2 := by
  by_cases hempty : q.tailSync = q.head
  · rw [dequeue_empty hempty, dequeue_empty hempty]
  · rw [dequeue_visible hempty, dequeue_visible hempty]
    rfl

theorem dequeue_catchesUp (hz : k.cdcLag = .zero) (hcopy : q.headSync = q.head) :
    q.CatchesUp (dequeue k.lagging q).1 (dequeue k q).1 := by
  by_cases hempty : q.tailSync = q.head
  · rw [dequeue_empty hempty, dequeue_empty hempty]
    exact .refl q
  · rw [dequeue_visible hempty, dequeue_visible hempty, hz]
    refine ⟨fun h => absurd rfl h, fun _ => ⟨?_, ?_⟩, fun _ h => absurd h (Nat.succ_ne_self _)⟩
    · exact Nat.lt_succ_of_le hcopy.le
    · simp only [syncBackward, syncCopy, Parameters.lagging, hcopy]

end

section
variable {s t : State}

theorem drainState_lagging (s : State) :
    drainState s.lagging = { (drainState s).lagging with queue := (dequeue s.par.lagging s.queue).1 } := by
  have hword : (dequeue s.lagging.par s.lagging.queue).2 = (dequeue s.par s.queue).2 := dequeue_lagging_word
  rw [drainState_eq, drainState_eq, hword]
  rfl

theorem renderState_drainState_lagging (s : State) (xs : List F32) :
    renderState (drainState s.lagging) xs =
      { (renderState (drainState s) xs).lagging with queue := (dequeue s.par.lagging s.queue).1 } := by
  rw [drainState_lagging]
  rfl

/-- Where the copies equal the originals, an operation under `ZERO` differs from the same under `ARBITRARY` in the copies alone (R276). -/
theorem exec_catchesUp {i : Instr} (hi : i.agent ≠ .host) (hz : s.par.cdcLag = .zero) (htail : s.queue.tailSync = s.queue.tail)
    (hhead : s.queue.headSync = s.queue.head) (he : exec i s = .next t) :
    ∃ q, exec i s.lagging = .next { t.lagging with queue := q } ∧ s.queue.CatchesUp q t.queue := by
  have hdeq := dequeue_catchesUp hz hhead
  cases i with
  | reset _ => exact absurd rfl hi
  | enq w =>
    obtain ⟨hok, rfl⟩ := execEnq_eq_next.mp he
    refine ⟨_, execEnq_eq_next.mpr ⟨hok, ?_⟩, enqueue_catchesUp hz htail w⟩
    rw [← enqueue_lagging_status]
    rfl
  | deq =>
    obtain ⟨hacc, rfl⟩ := execDeq_eq_next.mp he
    refine ⟨_, execDeq_eq_next.mpr ⟨hacc, ?_⟩, hdeq⟩
    rw [← dequeue_lagging_word]
    rfl
  | drain =>
    obtain ⟨hacc, rfl⟩ := accepted_eq_next.mp he
    exact ⟨_, accepted_eq_next.mpr ⟨hacc, (drainState_lagging s).symm⟩, hdeq⟩
  | callback xs =>
    obtain ⟨hacc, rfl⟩ := accepted_eq_next.mp he
    exact ⟨_, accepted_eq_next.mpr ⟨hacc, (renderState_drainState_lagging s xs).symm⟩, hdeq⟩
  | syncFwd =>
    obtain ⟨-, hlag, -⟩ := execSyncFwd_eq_next.mp he
    simp [hz] at hlag
  | syncBack =>
    obtain ⟨-, hlag, -⟩ := execSyncBack_eq_next.mp he
    simp [hz] at hlag
  | _ =>
    have hstep := exec_lagging rfl rfl he
    exact ⟨t.queue, hstep, exec_queue rfl rfl he ▸ .refl _⟩

/-- The SYNC step of `q_tail`, where it is behind, is the one that makes its copy catch up. -/
theorem execSyncFwd_catchesUp {q : Queue} (hok : t.cfgOk = true) (h : q.tailSync < q.tail ∧ syncForward q = t.queue) :
    exec .syncFwd { t.lagging with queue := q } = .next t.lagging :=
  execSyncFwd_eq_next.mpr ⟨hok, rfl, h.1, congrArg (fun q => { t.lagging with queue := q }) h.2.symm⟩

theorem execSyncBack_catchesUp {q : Queue} (hok : t.cfgOk = true) (h : q.headSync < q.head ∧ syncBackward q = t.queue) :
    exec .syncBack { t.lagging with queue := q } = .next t.lagging :=
  execSyncBack_eq_next.mpr ⟨hok, rfl, h.1, congrArg (fun q => { t.lagging with queue := q }) h.2.symm⟩

end

end Machine

end Sys2Proof

open Sys2Proof Sys2Proof.Machine

/-- Settles O22: under `ARBITRARY` the step leaves a queue whose copies catch up with those under `ZERO`; RESET reads no `CDC_LAG`. -/
theorem zeroLagIsImmediateSync : Obligations.ZeroLagIsImmediateSync := by
  unfold Obligations.ZeroLagIsImmediateSync
  intro i s t hz htail hhead he
  by_cases hi : i.agent = .host
  · obtain ⟨sr, rfl⟩ := eq_reset_of_agent hi
    exact ⟨t.lagging, execReset_lagging he, fun h => absurd hi h, fun h => absurd hi h, fun _ => rfl⟩
  · obtain ⟨q, hm, hq⟩ := exec_catchesUp hi hz htail hhead he
    obtain ⟨-, hok⟩ := exec_cfgOk hi he
    refine ⟨_, hm, fun _ hmoved => execSyncFwd_catchesUp hok (hq.forward hmoved),
      fun _ hmoved => execSyncBack_catchesUp hok (hq.backward hmoved), fun hstays => ?_⟩
    obtain ⟨htail', hhead'⟩ := hstays.resolve_left hi
    exact congrArg (fun q => { t.lagging with queue := q }) (hq.same htail' hhead')
end
